-- ==== Sys2Proof/Word.lean ====
section
/-! DEFINITION. The word types of the block: a byte is the unit of both serial ports (20_memory.md R63), and a bit is a
`Bool` with `true` for 1 (00_scope.md section 7.1). -/

namespace Sys2Proof

/-- A byte; bit 7 is its most significant bit (20_memory.md R60). -/
abbrev Byte := BitVec 8

/-- The pulse count, `COUNT_W` = 32 bits, unsigned (00_scope.md R2, 30_encoding.md R84). -/
abbrev Count := BitVec 32

/-- One analog sample, `ADC_W` = 10 bits, unsigned (00_scope.md R2). UNVERIFIED: the spec marks the width as general
knowledge (92_eei_decisions.md D4; log entry 21). -/
abbrev Sample := BitVec 10

end Sys2Proof
end

