-- ==== Sys2Proof/Syntax.lean ====
section
/-! DEFINITION. The frames of the block as syntax: one constructor of `Instr` per row of spec/opcode_table.json
(30_encoding.md R96, R97, R106). A received frame keeps every bit it carries, the ignored ones too, so that encoding loses
nothing; the machine reads only what the rules read. -/

namespace Sys2Proof

/-- The 2-bit axis field and the session register `active_axis` (10_state.md R15, 30_encoding.md R82). -/
inductive Axis where
  /-- `00` -/
  | x
  /-- `01` -/
  | y
  /-- `10` -/
  | z
  /-- `11`: names no axis (30_encoding.md R98). -/
  | reserved
  deriving DecidableEq, Repr, Inhabited

/-- The frames. `axis`, `dir` (`true` = negative), `ign` (`ctrl` bits 4..1) and `count` are the fields of 30_encoding.md R82
and R84; `goto` is the go-to-limit byte of a reserved form; `used` is the third byte of a query reply. -/
inductive Instr where
  /-- `MOVE`: `q = 0`, `gotoLimit = 0x00`. -/
  | move (axis : Axis) (dir : Bool) (ign : BitVec 4) (count : Count)
  /-- `GOTOLIM`: `q = 0`, `gotoLimit = 0xFF`; the count bytes are carried and ignored. -/
  | gotolim (axis : Axis) (dir : Bool) (ign : BitVec 4) (count : Count)
  /-- `QUERY`: `q = 1`; every other field is carried and ignored (30_encoding.md R100). -/
  | query (axis : Axis) (dir : Bool) (ign : BitVec 4) (goto : Byte) (count : Count)
  /-- `RSV.GOTO`, pattern `01xxxxxx`. -/
  | rsvGoto01 (axis : Axis) (dir : Bool) (ign : BitVec 4) (goto : Byte) (count : Count)
  /-- `RSV.GOTO`, pattern `10xxxxxx`. -/
  | rsvGoto10 (axis : Axis) (dir : Bool) (ign : BitVec 4) (goto : Byte) (count : Count)
  /-- `RSV.GOTO`, pattern `001xxxxx`. -/
  | rsvGoto001 (axis : Axis) (dir : Bool) (ign : BitVec 4) (goto : Byte) (count : Count)
  /-- `RSV.GOTO`, pattern `0001xxxx`. -/
  | rsvGoto0001 (axis : Axis) (dir : Bool) (ign : BitVec 4) (goto : Byte) (count : Count)
  /-- `RSV.GOTO`, pattern `00001xxx`. -/
  | rsvGoto00001 (axis : Axis) (dir : Bool) (ign : BitVec 4) (goto : Byte) (count : Count)
  /-- `RSV.GOTO`, pattern `000001xx`. -/
  | rsvGoto000001 (axis : Axis) (dir : Bool) (ign : BitVec 4) (goto : Byte) (count : Count)
  /-- `RSV.GOTO`, pattern `0000001x`. -/
  | rsvGoto0000001 (axis : Axis) (dir : Bool) (ign : BitVec 4) (goto : Byte) (count : Count)
  /-- `RSV.GOTO`, pattern `00000001`. -/
  | rsvGoto00000001 (axis : Axis) (dir : Bool) (ign : BitVec 4) (goto : Byte) (count : Count)
  /-- `RSV.GOTO`, pattern `110xxxxx`. -/
  | rsvGoto110 (axis : Axis) (dir : Bool) (ign : BitVec 4) (goto : Byte) (count : Count)
  /-- `RSV.GOTO`, pattern `1110xxxx`. -/
  | rsvGoto1110 (axis : Axis) (dir : Bool) (ign : BitVec 4) (goto : Byte) (count : Count)
  /-- `RSV.GOTO`, pattern `11110xxx`. -/
  | rsvGoto11110 (axis : Axis) (dir : Bool) (ign : BitVec 4) (goto : Byte) (count : Count)
  /-- `RSV.GOTO`, pattern `111110xx`. -/
  | rsvGoto111110 (axis : Axis) (dir : Bool) (ign : BitVec 4) (goto : Byte) (count : Count)
  /-- `RSV.GOTO`, pattern `1111110x`. -/
  | rsvGoto1111110 (axis : Axis) (dir : Bool) (ign : BitVec 4) (goto : Byte) (count : Count)
  /-- `RSV.GOTO`, pattern `11111110`. -/
  | rsvGoto11111110 (axis : Axis) (dir : Bool) (ign : BitVec 4) (goto : Byte) (count : Count)
  /-- `RESP.RESET`: `07 FF 00 0A`. -/
  | respReset
  /-- `RESP.OK`: `07 F0 00 0A`. -/
  | respOk
  /-- `RESP.LIMIT`: `07 0F 00 0A`. -/
  | respLimit
  /-- `RESP.USED`: `07 00 0u 0A`. -/
  | respUsed (used : Byte)
  deriving DecidableEq, Repr, Inhabited

end Sys2Proof
end

