-- ==== Sys2Proof/WellFormed.lean ====
section
/-! DEFINITION. The checks on a frame as syntax: a reserved form's go-to-limit byte fits its row's pattern
(30_encoding.md R97), and a query reply's third byte has bits 7..1 clear (30_encoding.md R88). -/

namespace Sys2Proof

/-- A byte fits a ternary pattern given as a mask of the fixed bits and their values. -/
def Byte.fits (mask value b : Byte) : Bool :=
  (b &&& mask) == value

/-- Every field of the frame is one the frame's row admits. -/
def Instr.wellFormed : Instr → Bool
  | .move _ _ _ _ => true
  | .gotolim _ _ _ _ => true
  | .query _ _ _ _ _ => true
  | .rsvGoto01 _ _ _ g _ => Byte.fits 0xC0 0x40 g
  | .rsvGoto10 _ _ _ g _ => Byte.fits 0xC0 0x80 g
  | .rsvGoto001 _ _ _ g _ => Byte.fits 0xE0 0x20 g
  | .rsvGoto0001 _ _ _ g _ => Byte.fits 0xF0 0x10 g
  | .rsvGoto00001 _ _ _ g _ => Byte.fits 0xF8 0x08 g
  | .rsvGoto000001 _ _ _ g _ => Byte.fits 0xFC 0x04 g
  | .rsvGoto0000001 _ _ _ g _ => Byte.fits 0xFE 0x02 g
  | .rsvGoto00000001 _ _ _ g _ => Byte.fits 0xFF 0x01 g
  | .rsvGoto110 _ _ _ g _ => Byte.fits 0xE0 0xC0 g
  | .rsvGoto1110 _ _ _ g _ => Byte.fits 0xF0 0xE0 g
  | .rsvGoto11110 _ _ _ g _ => Byte.fits 0xF8 0xF0 g
  | .rsvGoto111110 _ _ _ g _ => Byte.fits 0xFC 0xF8 g
  | .rsvGoto1111110 _ _ _ g _ => Byte.fits 0xFE 0xFC g
  | .rsvGoto11111110 _ _ _ g _ => Byte.fits 0xFF 0xFE g
  | .respReset => true
  | .respOk => true
  | .respLimit => true
  | .respUsed u => Byte.fits 0xFE 0x00 u

end Sys2Proof
end

