-- ==== Sys2Proof/Decode.lean ====
section
/-! DEFINITION. Reading and writing frames: the fields of the control byte and the count (30_encoding.md R82, R84, R89), the
decoder (R90), the encoder (R81, R85, R87) and the command map as mask and match (R96, R97). A frame is the list of its
bytes in wire order, first byte sent first (20_memory.md R59). -/

namespace Sys2Proof

/-! ### The framing bytes (00_scope.md R2) -/

/-- `START` = `0x07`. UNVERIFIED against the repository (log entry 16). -/
def startByte : Byte := 0x07

/-- `END` = `0x0A`. UNVERIFIED against the repository (log entry 16). -/
def endByte : Byte := 0x0A

/-- `GOTO_ON` = `0xFF`, the one go-to-limit byte that enables the mode (30_encoding.md R83). -/
def gotoOn : Byte := 0xFF

/-- `GOTO_OFF` = `0x00`, the byte the source names for a counted move (30_encoding.md R83). -/
def gotoOff : Byte := 0x00

/-! ### The fields of a captured frame (30_encoding.md R82, R84, R89) -/

/-- The axis coded by two bits: `00` X, `01` Y, `10` Z, `11` reserved. -/
def Axis.ofBits (b : BitVec 2) : Axis :=
  if b = 0 then .x else if b = 1 then .y else if b = 2 then .z else .reserved

/-- The two bits of an axis. -/
def Axis.toBits : Axis → BitVec 2
  | .x => 0
  | .y => 1
  | .z => 2
  | .reserved => 3

/-- `ctrl[7:6]`. -/
def ctrlAxis (ctrl : Byte) : Axis :=
  Axis.ofBits (ctrl.extractLsb' 6 2)

/-- `ctrl[5]`: 1 = negative. -/
def ctrlDir (ctrl : Byte) : Bool :=
  ctrl.getLsbD 5

/-- `ctrl[4:1]`: no meaning, ignored (30_encoding.md R99). -/
def ctrlIgnored (ctrl : Byte) : BitVec 4 :=
  ctrl.extractLsb' 1 4

/-- `ctrl[0]`: 1 = remote-used query. -/
def ctrlQuery (ctrl : Byte) : Bool :=
  ctrl.getLsbD 0

/-- The control byte with the given fields. -/
def ctrlByte (axis : Axis) (dir : Bool) (ign : BitVec 4) (q : Bool) : Byte :=
  axis.toBits ++ BitVec.ofBool dir ++ ign ++ BitVec.ofBool q

/-- The pulse count, big-endian: `p3` is the most significant byte (20_memory.md R59). -/
def countOf (p3 p2 p1 p0 : Byte) : Count :=
  p3 ++ p2 ++ p1 ++ p0

/-- Byte `i` of a count, byte 0 the least significant. -/
def countByte (c : Count) (i : Nat) : Byte :=
  c.extractLsb' (8 * i) 8

/-! ### Decoding (30_encoding.md R90) -/

/-- Why a list of bytes is no frame. The hardware drops such bytes silently (60_exceptions.md R240). -/
inductive Reject where
  /-- A frame of 8 or 4 bytes whose first byte is not `START`. -/
  | wrongStart
  /-- A frame whose last byte is not `END`. -/
  | wrongEnd
  /-- Four bytes between `START` and `END` that are none of the emitted frames (30_encoding.md R106). -/
  | notEmitted
  /-- Neither 8 nor 4 bytes (30_encoding.md R80: there is no other length). -/
  | wrongLength
  deriving DecidableEq, Repr, Inhabited

/-- The decoder's verdict on a list of bytes. -/
inductive Decoded where
  /-- The bytes are this frame. -/
  | frame (i : Instr)
  /-- The bytes are no frame, for this reason. -/
  | rejected (why : Reject)
  deriving DecidableEq, Repr, Inhabited

/-- The row of a reserved go-to-limit byte, `0x01` to `0xFE`, by the ternary patterns of 30_encoding.md R97 in their
order; the last pattern is what is left. -/
def reservedGoto (axis : Axis) (dir : Bool) (ign : BitVec 4) (g : Byte) (count : Count) : Instr :=
  if Byte.fits 0xC0 0x40 g then .rsvGoto01 axis dir ign g count
  else if Byte.fits 0xC0 0x80 g then .rsvGoto10 axis dir ign g count
  else if Byte.fits 0xE0 0x20 g then .rsvGoto001 axis dir ign g count
  else if Byte.fits 0xF0 0x10 g then .rsvGoto0001 axis dir ign g count
  else if Byte.fits 0xF8 0x08 g then .rsvGoto00001 axis dir ign g count
  else if Byte.fits 0xFC 0x04 g then .rsvGoto000001 axis dir ign g count
  else if Byte.fits 0xFE 0x02 g then .rsvGoto0000001 axis dir ign g count
  else if Byte.fits 0xFF 0x01 g then .rsvGoto00000001 axis dir ign g count
  else if Byte.fits 0xE0 0xC0 g then .rsvGoto110 axis dir ign g count
  else if Byte.fits 0xF0 0xE0 g then .rsvGoto1110 axis dir ign g count
  else if Byte.fits 0xF8 0xF0 g then .rsvGoto11110 axis dir ign g count
  else if Byte.fits 0xFC 0xF8 g then .rsvGoto111110 axis dir ign g count
  else if Byte.fits 0xFE 0xFC g then .rsvGoto1111110 axis dir ign g count
  else .rsvGoto11111110 axis dir ign g count

/-- The verdict on eight received bytes; the first test that applies decides (30_encoding.md R90). -/
def decodeCommand (start ctrl g p3 p2 p1 p0 last : Byte) : Decoded :=
  if start ≠ startByte then .rejected .wrongStart
  else if last ≠ endByte then .rejected .wrongEnd
  else if ctrlQuery ctrl then
    .frame (.query (ctrlAxis ctrl) (ctrlDir ctrl) (ctrlIgnored ctrl) g (countOf p3 p2 p1 p0))
  else if g = gotoOn then
    .frame (.gotolim (ctrlAxis ctrl) (ctrlDir ctrl) (ctrlIgnored ctrl) (countOf p3 p2 p1 p0))
  else if g = gotoOff then
    .frame (.move (ctrlAxis ctrl) (ctrlDir ctrl) (ctrlIgnored ctrl) (countOf p3 p2 p1 p0))
  else .frame (reservedGoto (ctrlAxis ctrl) (ctrlDir ctrl) (ctrlIgnored ctrl) g (countOf p3 p2 p1 p0))

/-- The verdict on four emitted bytes (30_encoding.md R85 to R88, R106). -/
def decodeResponse (start status third last : Byte) : Decoded :=
  if start ≠ startByte then .rejected .wrongStart
  else if last ≠ endByte then .rejected .wrongEnd
  else if status = 0xFF ∧ third = 0x00 then .frame .respReset
  else if status = 0xF0 ∧ third = 0x00 then .frame .respOk
  else if status = 0x0F ∧ third = 0x00 then .frame .respLimit
  else if status = 0x00 ∧ Byte.fits 0xFE 0x00 third then .frame (.respUsed third)
  else .rejected .notEmitted

/-- The frame a list of bytes is: a command frame has 8 bytes and an emitted frame 4 (30_encoding.md R80). -/
def decode : List Byte → Decoded
  | [b0, b1, b2, b3, b4, b5, b6, b7] => decodeCommand b0 b1 b2 b3 b4 b5 b6 b7
  | [b0, b1, b2, b3] => decodeResponse b0 b1 b2 b3
  | _ => .rejected .wrongLength

/-- The decoded frame, if there is one. -/
def Decoded.frame? : Decoded → Option Instr
  | .frame i => some i
  | .rejected _ => none

/-- The number `w` as `n` bytes, the most significant first: spec/opcode_table.json writes a frame as one number whose most
significant byte is the first byte on the wire (30_encoding.md R80; log entry 20). -/
def wireBytes : Nat → Nat → List Byte
  | 0, _ => []
  | n + 1, w => BitVec.ofNat 8 (w >>> (8 * n)) :: wireBytes n w

/-- The frame the decoder reads from a row's number `w` of `nbits` bits. -/
def decodeTableWord (nbits w : Nat) : Option Instr :=
  (decode (wireBytes (nbits / 8) w)).frame?

/-! ### Encoding (30_encoding.md R81, R85, R87) -/

/-- The eight bytes of a command frame, format `C8`. -/
def commandBytes (axis : Axis) (dir : Bool) (ign : BitVec 4) (q : Bool) (g : Byte) (count : Count) : List Byte :=
  [startByte, ctrlByte axis dir ign q, g, countByte count 3, countByte count 2, countByte count 1, countByte count 0,
    endByte]

/-- The four bytes of an emitted frame, formats `R4` and `Q4`. -/
def responseBytes (status third : Byte) : List Byte :=
  [startByte, status, third, endByte]

/-- The bytes of a frame in wire order. -/
def encode : Instr → List Byte
  | .move axis dir ign count => commandBytes axis dir ign false gotoOff count
  | .gotolim axis dir ign count => commandBytes axis dir ign false gotoOn count
  | .query axis dir ign g count => commandBytes axis dir ign true g count
  | .rsvGoto01 axis dir ign g count => commandBytes axis dir ign false g count
  | .rsvGoto10 axis dir ign g count => commandBytes axis dir ign false g count
  | .rsvGoto001 axis dir ign g count => commandBytes axis dir ign false g count
  | .rsvGoto0001 axis dir ign g count => commandBytes axis dir ign false g count
  | .rsvGoto00001 axis dir ign g count => commandBytes axis dir ign false g count
  | .rsvGoto000001 axis dir ign g count => commandBytes axis dir ign false g count
  | .rsvGoto0000001 axis dir ign g count => commandBytes axis dir ign false g count
  | .rsvGoto00000001 axis dir ign g count => commandBytes axis dir ign false g count
  | .rsvGoto110 axis dir ign g count => commandBytes axis dir ign false g count
  | .rsvGoto1110 axis dir ign g count => commandBytes axis dir ign false g count
  | .rsvGoto11110 axis dir ign g count => commandBytes axis dir ign false g count
  | .rsvGoto111110 axis dir ign g count => commandBytes axis dir ign false g count
  | .rsvGoto1111110 axis dir ign g count => commandBytes axis dir ign false g count
  | .rsvGoto11111110 axis dir ign g count => commandBytes axis dir ign false g count
  | .respReset => responseBytes 0xFF 0x00
  | .respOk => responseBytes 0xF0 0x00
  | .respLimit => responseBytes 0x0F 0x00
  | .respUsed u => responseBytes 0x00 u

/-! ### The command map as mask and match (30_encoding.md R96, R97, R106; spec/opcode_table.json) -/

/-- One row of the table: a frame `F` of `bytes` bytes selects it when `F &&& mask = value`. -/
structure Row where
  bytes : Nat
  mask : Nat
  value : Nat
  deriving DecidableEq, Repr, Inhabited

/-- The row of each frame. -/
def rowOf : Instr → Row
  | .move _ _ _ _ => ⟨8, 0xFF01FF00000000FF, 0x070000000000000A⟩
  | .gotolim _ _ _ _ => ⟨8, 0xFF01FF00000000FF, 0x0700FF000000000A⟩
  | .query _ _ _ _ _ => ⟨8, 0xFF010000000000FF, 0x070100000000000A⟩
  | .rsvGoto01 _ _ _ _ _ => ⟨8, 0xFF01C000000000FF, 0x070040000000000A⟩
  | .rsvGoto10 _ _ _ _ _ => ⟨8, 0xFF01C000000000FF, 0x070080000000000A⟩
  | .rsvGoto001 _ _ _ _ _ => ⟨8, 0xFF01E000000000FF, 0x070020000000000A⟩
  | .rsvGoto0001 _ _ _ _ _ => ⟨8, 0xFF01F000000000FF, 0x070010000000000A⟩
  | .rsvGoto00001 _ _ _ _ _ => ⟨8, 0xFF01F800000000FF, 0x070008000000000A⟩
  | .rsvGoto000001 _ _ _ _ _ => ⟨8, 0xFF01FC00000000FF, 0x070004000000000A⟩
  | .rsvGoto0000001 _ _ _ _ _ => ⟨8, 0xFF01FE00000000FF, 0x070002000000000A⟩
  | .rsvGoto00000001 _ _ _ _ _ => ⟨8, 0xFF01FF00000000FF, 0x070001000000000A⟩
  | .rsvGoto110 _ _ _ _ _ => ⟨8, 0xFF01E000000000FF, 0x0700C0000000000A⟩
  | .rsvGoto1110 _ _ _ _ _ => ⟨8, 0xFF01F000000000FF, 0x0700E0000000000A⟩
  | .rsvGoto11110 _ _ _ _ _ => ⟨8, 0xFF01F800000000FF, 0x0700F0000000000A⟩
  | .rsvGoto111110 _ _ _ _ _ => ⟨8, 0xFF01FC00000000FF, 0x0700F8000000000A⟩
  | .rsvGoto1111110 _ _ _ _ _ => ⟨8, 0xFF01FE00000000FF, 0x0700FC000000000A⟩
  | .rsvGoto11111110 _ _ _ _ _ => ⟨8, 0xFF01FF00000000FF, 0x0700FE000000000A⟩
  | .respReset => ⟨4, 0xFFFFFFFF, 0x07FF000A⟩
  | .respOk => ⟨4, 0xFFFFFFFF, 0x07F0000A⟩
  | .respLimit => ⟨4, 0xFFFFFFFF, 0x070F000A⟩
  | .respUsed _ => ⟨4, 0xFFFFFEFF, 0x0700000A⟩

/-- The number of a list of bytes, the first byte the most significant (30_encoding.md R80). -/
def frameNumber : List Byte → Nat
  | [] => 0
  | b :: bs => b.toNat * 256 ^ bs.length + frameNumber bs

/-- A list of bytes selects a row. -/
def Row.selects (r : Row) (bs : List Byte) : Bool :=
  bs.length == r.bytes && (frameNumber bs &&& r.mask) == r.value

end Sys2Proof
end

