-- ==== Sys2Proof/Config.lean ====
section
/-! DEFINITION. What the spec leaves to the implementation or to the environment: the OPEN parameters of 00_scope.md R2 and
the samples `ENV` puts on the input ports (10_state.md R29, R36). The fixed literals of R2 stand beside their one use
(`Decode.lean`, `Machine/Operands.lean`), where an audit of the source can change one line. -/

namespace Sys2Proof

/-- The parameters of 00_scope.md R2 that are OPEN, as plain data: "an argument of the model with only a range fixed".
DESIGN CHOICE: the up-down baseline and thresholds, for which the spec gives no range, are any integers (log entry 5). -/
structure Params where
  /-- `CLK_HZ`; no rule depends on it (92_eei_decisions.md D1). -/
  clkHz : Nat
  /-- `PHASE_TICKS`, an integer of at least 1: the ticks of one pulse phase. -/
  phaseTicks : Nat
  /-- `DEBOUNCE_TICKS`: the debounce wait of the limit handler. -/
  debounceTicks : Nat
  /-- `JOY_DELAY_TICKS`: the joystick's first-read delay. -/
  joyDelayTicks : Nat
  /-- `JOY_UD_BASE` (default 700). -/
  joyUdBase : Int
  /-- `JOY_UD_HI` (default 200). -/
  joyUdHi : Int
  /-- `JOY_UD_LO` (default 400). -/
  joyUdLo : Int
  /-- `JOY_UD_HI_DIR` (default 1 = negative). -/
  joyUdHiDir : Bool
  /-- `JOY_UD_LO_DIR` (default 0 = positive). -/
  joyUdLoDir : Bool
  deriving DecidableEq, Repr, Inhabited

/-- The largest value a delay counter is loaded with (00_scope.md R2, `TIMER_W`). -/
def Params.timerMax (p : Params) : Nat :=
  max p.phaseTicks (max p.debounceTicks p.joyDelayTicks)

/-- `TIMER_W`: the smallest width that holds `timerMax` (00_scope.md R2). -/
def Params.timerWidth (p : Params) : Nat :=
  Nat.log2 p.timerMax + 1

/-- The ranges 00_scope.md R2 fixes: `PHASE_TICKS` is at least 1, the other tick counts are any natural number. -/
abbrev Params.Valid (p : Params) : Prop :=
  1 ≤ p.phaseTicks

/-- The nominal `PHASE_TICKS`, `round(CLK_HZ × 0.001)` (00_scope.md R2). No rule uses it. -/
def Params.nominalPhaseTicks (p : Params) : Nat :=
  (p.clkHz + 500) / 1000

/-- One sample of every input port at one tick (10_state.md R29). -/
structure PortIn where
  /-- `rst`: synchronous reset, active high. -/
  rst : Bool
  /-- `rx_valid`: a received byte is offered. -/
  rxValid : Bool
  /-- `rx_data`: the offered byte. -/
  rxData : Byte
  /-- `tx_ready`: the link takes the offered byte at this tick. -/
  txReady : Bool
  /-- `limit_in`: the limit-sense input, 1 = asserted. -/
  limitIn : Bool
  /-- `adc_lr`: the left-right joystick sample. -/
  adcLr : Sample
  /-- `adc_ud`: the up-down joystick sample. -/
  adcUd : Sample
  deriving DecidableEq, Repr, Inhabited

/-- The free stream of port samples: what `ENV` drives at a tick for which the state lists no sample. Nothing constrains it
(10_state.md R36; log entry 2). -/
opaque Config.freeInput : Nat → PortIn

/-- Free `CLK_HZ` of the machine at reset (log entry 5). -/
opaque Config.freeClkHz : Nat

/-- Free `PHASE_TICKS` of the machine at reset, less one, so that the range "integer ≥ 1" holds (log entry 5). -/
opaque Config.freePhaseTicksLessOne : Nat

/-- Free `DEBOUNCE_TICKS` of the machine at reset (log entry 5). -/
opaque Config.freeDebounceTicks : Nat

/-- Free `JOY_DELAY_TICKS` of the machine at reset (log entry 5). -/
opaque Config.freeJoyDelayTicks : Nat

/-- Free `JOY_UD_BASE` of the machine at reset (log entry 5). -/
opaque Config.freeJoyUdBase : Int

/-- Free `JOY_UD_HI` of the machine at reset (log entry 5). -/
opaque Config.freeJoyUdHi : Int

/-- Free `JOY_UD_LO` of the machine at reset (log entry 5). -/
opaque Config.freeJoyUdLo : Int

/-- Free `JOY_UD_HI_DIR` of the machine at reset (log entry 5). -/
opaque Config.freeJoyUdHiDir : Bool

/-- Free `JOY_UD_LO_DIR` of the machine at reset (log entry 5). -/
opaque Config.freeJoyUdLoDir : Bool

/-- The parameters of the machine at reset: any values in the ranges of 00_scope.md R2. -/
def Config.params : Params where
  clkHz := Config.freeClkHz
  phaseTicks := Config.freePhaseTicksLessOne + 1
  debounceTicks := Config.freeDebounceTicks
  joyDelayTicks := Config.freeJoyDelayTicks
  joyUdBase := Config.freeJoyUdBase
  joyUdHi := Config.freeJoyUdHi
  joyUdLo := Config.freeJoyUdLo
  joyUdHiDir := Config.freeJoyUdHiDir
  joyUdLoDir := Config.freeJoyUdLoDir

end Sys2Proof
end

