-- ==== Sys2Proof/Machine/State.lean ====
section
/-! DEFINITION. The state of the block (10_state.md R10: the list is complete), its value after reset (R37), and the ways a step
can stop. The last three fields of `State` are the model's own (log entries 2 and 5): 10_state.md R36 names the parameters
and the input streams as arguments of the step, and a step of one argument finds them in the state. -/

namespace Sys2Proof.Machine

/-- `mstate`, MAIN's program counter (10_state.md R17). -/
inductive MState where
  /-- `M_BOOT`: builds the device-reset frame. -/
  | boot
  /-- `M_POLL`: tests for a byte, reads one. -/
  | poll
  /-- `M_COLLECT`: reads seven payload bytes. -/
  | collect
  /-- `M_PARSE`: checks `END`, sets a pending flag. -/
  | parse
  /-- `M_DISPATCH`: chooses execution, query reply or joystick. -/
  | dispatch
  /-- `M_EXEC`: latches axis, direction, mode, count. -/
  | exec
  /-- `M_PCHECK`: reads the continuation flag before a pulse. -/
  | pcheck
  /-- `M_PHIGH`: high phase of a pulse. -/
  | phigh
  /-- `M_PLOW`: low phase of a pulse. -/
  | plow
  /-- `M_RESP`: builds the status frame. -/
  | resp
  /-- `M_QRESP`: builds the query reply, clears `remote_used`. -/
  | qresp
  /-- `M_TX`: sends the four bytes. -/
  | tx
  /-- `M_JOYWAIT`: first-read delay. -/
  | joywait
  /-- `M_JOYREAD`: reads both channels, decides. -/
  | joyread
  /-- `M_END`: clears the per-cycle flags. -/
  | cycleEnd
  deriving DecidableEq, Repr, Inhabited

/-- `lstate`, the limit handler's control state (10_state.md R18). -/
inductive LState where
  /-- `L_IDLE`: no handler is running. -/
  | idle
  /-- `L_DEBOUNCE`: the debounce wait. -/
  | debounce
  /-- `L_CHECK`: re-checks the input, reverses the direction. -/
  | check
  /-- `L_LOOP`: tests the input before each retreat pulse. -/
  | loop
  /-- `L_HIGH`: high phase of a retreat pulse. -/
  | high
  /-- `L_LOW`: low phase of a retreat pulse. -/
  | low
  /-- `L_FINISH`: sets `limit_hit`, clears `keep_pulsing`. -/
  | finish
  deriving DecidableEq, Repr, Inhabited

/-- `buf[0..6]`, the payload buffer (10_state.md R11). -/
structure Payload where
  /-- `buf[0]`, the control byte. -/
  ctrl : Byte
  /-- `buf[1]`, the go-to-limit byte. -/
  gotoByte : Byte
  /-- `buf[2]`, bits 31..24 of the count. -/
  p3 : Byte
  /-- `buf[3]`, bits 23..16 of the count. -/
  p2 : Byte
  /-- `buf[4]`, bits 15..8 of the count. -/
  p1 : Byte
  /-- `buf[5]`, bits 7..0 of the count. -/
  p0 : Byte
  /-- `buf[6]`, the byte that must equal `END`. -/
  last : Byte
  deriving DecidableEq, Repr, Inhabited

/-- `tx_buf[0..3]`, the frame being sent, `b0` first (10_state.md R13). -/
structure TxFrame where
  b0 : Byte
  b1 : Byte
  b2 : Byte
  b3 : Byte
  deriving DecidableEq, Repr, Inhabited

/-- The complete state of the block (10_state.md R10), and after it the model's own fields. -/
structure State where
  /-- `buf[0..6]` (R11). -/
  buf : Payload
  /-- `rx_idx`, 3 bits, 0..6 (R14). -/
  rxIdx : BitVec 3
  /-- `pulse_rem`, the pulses the burst may still start (R12). -/
  pulseRem : Count
  /-- `tx_buf[0..3]` (R13). -/
  txBuf : TxFrame
  /-- `tx_idx`, the index of the next byte to send (R13). -/
  txIdx : BitVec 2
  /-- `active_axis` (R15). -/
  activeAxis : Axis
  /-- `active_dir`, the commanded direction, 1 = negative (R16). -/
  activeDir : Bool
  /-- `cmd_pend`, the pending-command flag (R19). -/
  cmdPend : Bool
  /-- `query_pend`, the pending remote-used-query flag (R20). -/
  queryPend : Bool
  /-- `goto_limit`, the go-to-limit flag (R21). -/
  gotoLimit : Bool
  /-- `limit_hit`, the limit-hit flag (R22). -/
  limitHit : Bool
  /-- `keep_pulsing`, the continuation flag, 1 = continue (R23). -/
  keepPulsing : Bool
  /-- `joy_now`, remote in use this cycle (R24). -/
  joyNow : Bool
  /-- `joy_prev`, remote in use in the previous cycle (R24). -/
  joyPrev : Bool
  /-- `remote_used`, remote used since the last query (R25). -/
  remoteUsed : Bool
  /-- `mstate` (R17). -/
  mstate : MState
  /-- `lstate` (R18). -/
  lstate : LState
  /-- `m_cnt`, MAIN's down-counter (R30); its `TIMER_W` bits are the bound of `Safety.lean` (log entry 7). -/
  mCnt : Nat
  /-- `l_cnt`, LSM's down-counter (R30; log entry 7). -/
  lCnt : Nat
  /-- `lim_meta`, first synchroniser stage (R32). -/
  limMeta : Bool
  /-- `lim_s`, the synchronised limit sample (R33). -/
  limS : Bool
  /-- `lim_prev`, the sample one tick earlier (R33). -/
  limPrev : Bool
  /-- `lim_pend`, the pending-interrupt latch (R31). -/
  limPend : Bool
  /-- `step_x` (R26). -/
  stepX : Bool
  /-- `step_y` (R26). -/
  stepY : Bool
  /-- `step_z` (R26). -/
  stepZ : Bool
  /-- `dir_out`, 1 = negative (R26). -/
  dirOut : Bool
  /-- The model's own: the OPEN parameters (00_scope.md R2; log entry 5). No step writes it. -/
  params : Params
  /-- The model's own: the port samples of the coming ticks, the next one first (R29, R36; log entry 2). -/
  inputs : List PortIn
  /-- The model's own: the ticks taken so far; after the listed samples the port sample of a tick is the free value
  `Config.freeInput` at this number (log entry 2). -/
  tick : Nat
  deriving DecidableEq, Repr

/-- The machine right after reset: the table of 10_state.md R37. The model's own fields: parameters in the ranges of
00_scope.md R2 and otherwise free, no listed port sample, tick 0. DESIGN CHOICE for these three (log entries 2 and 5). -/
def State.reset : State where
  buf := ⟨0x00, 0x00, 0x00, 0x00, 0x00, 0x00, 0x00⟩
  rxIdx := 0
  pulseRem := 0
  txBuf := ⟨0x00, 0x00, 0x00, 0x00⟩
  txIdx := 0
  activeAxis := .x
  activeDir := false
  cmdPend := false
  queryPend := false
  gotoLimit := false
  limitHit := false
  keepPulsing := true
  joyNow := false
  joyPrev := false
  remoteUsed := false
  mstate := .boot
  lstate := .idle
  mCnt := 0
  lCnt := 0
  limMeta := true
  limS := true
  limPrev := true
  limPend := false
  stepX := false
  stepY := false
  stepZ := false
  dirOut := false
  params := Config.params
  inputs := []
  tick := 0

/-- The ways a step stops with a fault. -/
inductive Fault where
  /-- Raised by `M_COLLECT` when a byte arrives while `rx_idx` is 7: 20_memory.md R50 gives no register `buf[7]`, and
  10_state.md R14 says that the value 7 is never reached. SAFE: no run from reset raises it, and where the model stops
  nothing can be proved of the hardware (log entry 8). -/
  | rxIndexOutOfRange
  deriving DecidableEq, Repr

/-- The ways a step is refused. -/
inductive Refusal where
  /-- Raised by an arm of `exec` for an instruction without a meaning. SAFE: nothing can be proved of such a step. No arm
  raises it in this model. -/
  | notModelled (mnemonic : String)
  deriving DecidableEq, Repr

/-- What one step of this machine answers. -/
abbrev Result := Host.Outcome State Fault Refusal

end Sys2Proof.Machine
end

