-- ==== Sys2Proof/Machine/Ops.lean ====
section
/-! DEFINITION. The named operations over the state that the rules are written in: the input sample of a tick, the indexed
buffers, the output registers (10_state.md R26, R27), the signals `main_en` and `edge` (R33, R34), building a frame
(43_response_encoder.md R181 to R184), and taking and leaving the limit interrupt (60_exceptions.md R225, R236). -/

namespace Sys2Proof.Machine

/-! ### The environment -/

/-- The port sample that tick `j` counted from here reads: a listed one, or after the list a free one
(10_state.md R29, R36; log entry 2). -/
def State.inputAt (s : State) (j : Nat) : PortIn :=
  s.inputs.getD j (Config.freeInput (s.tick + j))

/-- The port sample of the coming tick. -/
def State.input (s : State) : PortIn :=
  s.inputAt 0

/-! ### Indexed storage (20_memory.md R50) -/

/-- `buf[i] <- b`; there is no register 7 (10_state.md R14). -/
def Payload.write (p : Payload) (i : BitVec 3) (b : Byte) : Option Payload :=
  if i = 0 then some { p with ctrl := b }
  else if i = 1 then some { p with gotoByte := b }
  else if i = 2 then some { p with p3 := b }
  else if i = 3 then some { p with p2 := b }
  else if i = 4 then some { p with p1 := b }
  else if i = 5 then some { p with p0 := b }
  else if i = 6 then some { p with last := b }
  else none

/-- `tx_buf[i]`. -/
def TxFrame.read (f : TxFrame) (i : BitVec 2) : Byte :=
  if i = 0 then f.b0 else if i = 1 then f.b1 else if i = 2 then f.b2 else f.b3

/-- The bytes of the transmit buffer in wire order (20_memory.md R52). -/
def TxFrame.bytes (f : TxFrame) : List Byte :=
  [f.b0, f.b1, f.b2, f.b3]

/-! ### Output registers -/

/-- `StepWrite(a, v)`: the one step register the axis selects, none for the reserved code (10_state.md R27). -/
def State.stepWrite (s : State) (a : Axis) (v : Bool) : State :=
  match a with
  | .x => { s with stepX := v }
  | .y => { s with stepY := v }
  | .z => { s with stepZ := v }
  | .reserved => s

/-- `DirWrite(v)` (00_scope.md section 7.3). -/
def State.dirWrite (s : State) (v : Bool) : State :=
  { s with dirOut := v }

/-- The step register of an axis; the reserved code has none and reads 0. -/
def State.stepOf (s : State) : Axis → Bool
  | .x => s.stepX
  | .y => s.stepY
  | .z => s.stepZ
  | .reserved => false

/-! ### Signals -/

/-- `main_en`: MAIN applies its rule at this tick (10_state.md R34). -/
def State.mainEn (s : State) : Bool :=
  s.lstate == .idle && !s.limPend

/-- `edge`: the synchronised limit input was 0 at the previous tick and is 1 now (10_state.md R33). -/
def State.edge (s : State) : Bool :=
  s.limS && !s.limPrev

/-- `LimitIn()` is `lim_s` (10_state.md R33). -/
def State.limitIn (s : State) : Bool :=
  s.limS

/-- `lim_pend` after the tick: set by an edge, cleared when LSM leaves `L_IDLE` to serve it, else held; an edge at the tick of
entry leaves it 1 (60_exceptions.md R221). -/
def State.nextLimPend (s : State) : Bool :=
  s.edge || (s.limPend && s.lstate != .idle)

/-! ### Shared updates -/

/-- Builds a frame to send: `tx_buf`, `tx_idx <- 0`, `mstate <- M_TX` (43_response_encoder.md R181, R182, R184). -/
def State.buildFrame (s : State) (status third : Byte) : State :=
  { s with txBuf := ⟨0x07, status, third, 0x0A⟩, txIdx := 0, mstate := .tx }

/-- TAKING THE INTERRUPT: LSM leaves `L_IDLE` for `L_DEBOUNCE` and loads its counter. Nothing is saved: MAIN is not clocked
while the handler runs (60_exceptions.md R224, R225). -/
def State.takeInterrupt (s : State) : State :=
  { s with lCnt := s.params.debounceTicks, lstate := .debounce }

/-- RETURN FROM THE INTERRUPT: `lstate <- L_IDLE`. Nothing is restored, and MAIN goes on with the rule of the `mstate` it was
held in (60_exceptions.md R236). -/
def State.leaveInterrupt (s : State) : State :=
  { s with lstate := .idle }

/-- The tick of the synchroniser, the pending latch and the environment's clock, applied at every tick with `rst = 0` to what
MAIN or LSM made of the state. Every right side reads the state `pre` before the tick (10_state.md R31 to R33,
60_exceptions.md R221). -/
def State.latch (pre : State) (p : PortIn) (post : State) : State :=
  { post with
    limMeta := p.limitIn
    limS := pre.limMeta
    limPrev := pre.limS
    limPend := pre.nextLimPend
    inputs := pre.inputs.tail
    tick := pre.tick + 1 }

/-- A tick with `rst = 1`: every state element takes its reset value (10_state.md R37, 70_reset_and_hazards.md R260). The
parameters stay and the environment's clock goes on (log entry 6). -/
def State.resetTick (s : State) : State :=
  { State.reset with params := s.params, inputs := s.inputs.tail, tick := s.tick + 1 }

end Sys2Proof.Machine
end

