-- ==== Sys2Proof/Machine/Operands.lean ====
section
/-! DEFINITION. The operands of the commands: what `M_EXEC` assembles from the captured buffer (30_encoding.md R89), the bytes
of the buffer as a frame, and the fixed literals of 00_scope.md R2 that the rules read. -/

namespace Sys2Proof.Machine

/-- `COUNT_MAX`, "maximum representable unsigned 32-bit value" (00_scope.md R2). -/
def countMax : Count := 0xFFFFFFFF

/-- `ST_SUCCESS` (00_scope.md R2). -/
def statusSuccess : Byte := 0xF0

/-- `ST_LIMIT` (00_scope.md R2). -/
def statusLimit : Byte := 0x0F

/-- `ST_RESET` (00_scope.md R2). -/
def statusReset : Byte := 0xFF

/-- `JOY_LR_BASE` (00_scope.md R2). -/
def joyLrBase : Nat := 700

/-- `JOY_LR_HI` (00_scope.md R2). -/
def joyLrHi : Nat := 200

/-- `JOY_LR_LO` (00_scope.md R2). -/
def joyLrLo : Nat := 400

/-- The captured frame in wire order: the `START` byte that opened the capture is not stored (30_encoding.md R81). -/
def Payload.frame (b : Payload) : List Byte :=
  [startByte, b.ctrl, b.gotoByte, b.p3, b.p2, b.p1, b.p0, b.last]

/-- `g`: the go-to-limit mode, 1 iff `buf[1] = 0xFF` (30_encoding.md R83). -/
def Payload.gotoMode (b : Payload) : Bool :=
  b.gotoByte == gotoOn

/-- `count`: `buf[2] ‖ buf[3] ‖ buf[4] ‖ buf[5]` (30_encoding.md R89). -/
def Payload.count (b : Payload) : Count :=
  countOf b.p3 b.p2 b.p1 b.p0

/-- `n`: the pulses requested of PULSE (30_encoding.md R89). -/
def requestedPulses (g : Bool) (count : Count) : Count :=
  if g then countMax else count

end Sys2Proof.Machine
end

