-- ==== Sys2Proof/Machine/Flags.lean ====
section
/-! DEFINITION. The flag computations of the rules: which pending flag a captured frame sets (40_command_decoder.md R113), the
status a command is answered with (43_response_encoder.md R182), the byte that reports `remote_used` (30_encoding.md R88),
and the reset of the per-cycle flags (44_control_loop.md R205). -/

namespace Sys2Proof.Machine

/-- `M_PARSE` on the flags: with `END` in place, the query bit chooses which flag is set; otherwise none is written
(40_command_decoder.md R113). -/
def State.setPending (s : State) : State :=
  if s.buf.last = endByte then
    if ctrlQuery s.buf.ctrl then { s with queryPend := true } else { s with cmdPend := true }
  else s

/-- The command being answered ended in an unexpected limit hit: `limit_hit = 1` and `goto_limit = 0`
(43_response_encoder.md R182, 60_exceptions.md R242). -/
def State.unexpectedLimit (s : State) : Bool :=
  s.limitHit && !s.gotoLimit

/-- `zext_8(remote_used)` (43_response_encoder.md R184). -/
def usedByte (u : Bool) : Byte :=
  if u then 0x01 else 0x00

/-- The end of PULSE on the continuation flag: restored to 1 (41_pulse_generator.md R136). -/
def State.restoreKeepPulsing (s : State) : State :=
  { s with keepPulsing := true }

/-- The end of the limit handler's action on the flags: `limit_hit <- 1`, `keep_pulsing <- 0` (60_exceptions.md R233). -/
def State.markLimitHit (s : State) : State :=
  { s with limitHit := true, keepPulsing := false }

/-- `M_END` on the flags: `joy_prev` takes `joy_now`, and the per-cycle flags are cleared (44_control_loop.md R205). -/
def State.clearCycleFlags (s : State) : State :=
  { s with
    joyPrev := s.joyNow
    joyNow := false
    cmdPend := false
    queryPend := false
    gotoLimit := false
    limitHit := false }

end Sys2Proof.Machine
end

