-- ==== Sys2Proof/Machine/Control.lean ====
section
/-! DEFINITION. The two states of the control loop itself (44_control_loop.md R202, R205). -/

namespace Sys2Proof.Machine

/-- `M_DISPATCH`: a command goes first, then a query, else the joystick poll with its delay, which is skipped after a cycle that
moved (44_control_loop.md R202, 42_joystick_controller.md R160). -/
def State.dispatchRule (s : State) : State :=
  if s.cmdPend then { s with mstate := .exec }
  else if s.queryPend then { s with mstate := .qresp }
  else { s with mCnt := if s.joyPrev then 0 else s.params.joyDelayTicks, mstate := .joywait }

/-- `M_END`: the per-cycle flags go to their default and the next cycle begins (R205). -/
def State.endRule (s : State) : State :=
  { s.clearCycleFlags with mstate := .poll }

end Sys2Proof.Machine
end

