-- ==== Sys2Proof/Machine/Decoder.lean ====
section
/-! DEFINITION. The command decoder, state by state (40_command_decoder.md R110 to R113). -/

namespace Sys2Proof.Machine

/-- `M_POLL`: nothing is read while a command or query is pending (R110); otherwise at most one byte is read, and a byte that is
not `START` is dropped (R111, FramingError of 60_exceptions.md R240). -/
def State.pollRule (s : State) (p : PortIn) : State :=
  if s.cmdPend || s.queryPend then { s with mstate := .dispatch }
  else if p.rxValid then
    if p.rxData = startByte then { s with rxIdx := 0, mstate := .collect } else { s with mstate := .dispatch }
  else { s with mstate := .dispatch }

/-- `M_COLLECT`: one payload byte per offered byte, stored without inspection; no timeout (R112, 20_memory.md R71). -/
def collectRule (s : State) (p : PortIn) : Result :=
  if p.rxValid then
    match s.buf.write s.rxIdx p.rxData with
    | some b =>
      if s.rxIdx = 6 then .next { s with buf := b, mstate := .parse }
      else .next { s with buf := b, rxIdx := s.rxIdx + 1 }
    | none => .fault .rxIndexOutOfRange
  else .next s

/-- `M_PARSE`: a right `END` byte marks a query or a command pending; a wrong one drops the frame (R113). -/
def State.parseRule (s : State) : State :=
  { s.setPending with mstate := .dispatch }

end Sys2Proof.Machine
end

