-- ==== Sys2Proof/Machine/Commands.lean ====
section
/-! DEFINITION. The meanings of the command frames `MOVE`, `GOTOLIM` and `RSV.GOTO` (41_pulse_generator.md R131, R132, R141 to
R143): the tick of `M_EXEC`, which gives a captured command its effect and starts PULSE. -/

namespace Sys2Proof.Machine

/-- `M_EXEC`, all writes at one tick (41_pulse_generator.md R131). The reserved axis starts no burst (R132). -/
def State.startCommand (s : State) (axis : Axis) (dir g : Bool) (count : Count) : State :=
  { s.dirWrite dir with
    activeAxis := axis
    activeDir := dir
    gotoLimit := g
    pulseRem := requestedPulses g count
    mstate := if axis = .reserved then .resp else .pcheck }

/-- `MOVE axis, dir, count` (41_pulse_generator.md R141). -/
def execMove (axis : Axis) (dir : Bool) (count : Count) (s : State) : Result :=
  .next (s.startCommand axis dir false count)

/-- `GOTOLIM axis, dir`; the count bytes are ignored (41_pulse_generator.md R142). -/
def execGotolim (axis : Axis) (dir : Bool) (count : Count) (s : State) : Result :=
  .next (s.startCommand axis dir true count)

/-- A reserved go-to-limit byte acts as `0x00`: the frame runs as `MOVE` (41_pulse_generator.md R143, 30_encoding.md R97).
A decision of the spec, D10 (log entry 11). -/
def State.startReserved (s : State) (axis : Axis) (dir : Bool) (count : Count) : State :=
  s.startCommand axis dir false count

/-- `RSV.GOTO`, pattern `01xxxxxx` (41_pulse_generator.md R143). -/
def execRsvGoto01 (axis : Axis) (dir : Bool) (count : Count) (s : State) : Result :=
  .next (s.startReserved axis dir count)

/-- `RSV.GOTO`, pattern `10xxxxxx` (41_pulse_generator.md R143). -/
def execRsvGoto10 (axis : Axis) (dir : Bool) (count : Count) (s : State) : Result :=
  .next (s.startReserved axis dir count)

/-- `RSV.GOTO`, pattern `001xxxxx` (41_pulse_generator.md R143). -/
def execRsvGoto001 (axis : Axis) (dir : Bool) (count : Count) (s : State) : Result :=
  .next (s.startReserved axis dir count)

/-- `RSV.GOTO`, pattern `0001xxxx` (41_pulse_generator.md R143). -/
def execRsvGoto0001 (axis : Axis) (dir : Bool) (count : Count) (s : State) : Result :=
  .next (s.startReserved axis dir count)

/-- `RSV.GOTO`, pattern `00001xxx` (41_pulse_generator.md R143). -/
def execRsvGoto00001 (axis : Axis) (dir : Bool) (count : Count) (s : State) : Result :=
  .next (s.startReserved axis dir count)

/-- `RSV.GOTO`, pattern `000001xx` (41_pulse_generator.md R143). -/
def execRsvGoto000001 (axis : Axis) (dir : Bool) (count : Count) (s : State) : Result :=
  .next (s.startReserved axis dir count)

/-- `RSV.GOTO`, pattern `0000001x` (41_pulse_generator.md R143). -/
def execRsvGoto0000001 (axis : Axis) (dir : Bool) (count : Count) (s : State) : Result :=
  .next (s.startReserved axis dir count)

/-- `RSV.GOTO`, pattern `00000001` (41_pulse_generator.md R143). -/
def execRsvGoto00000001 (axis : Axis) (dir : Bool) (count : Count) (s : State) : Result :=
  .next (s.startReserved axis dir count)

/-- `RSV.GOTO`, pattern `110xxxxx` (41_pulse_generator.md R143). -/
def execRsvGoto110 (axis : Axis) (dir : Bool) (count : Count) (s : State) : Result :=
  .next (s.startReserved axis dir count)

/-- `RSV.GOTO`, pattern `1110xxxx` (41_pulse_generator.md R143). -/
def execRsvGoto1110 (axis : Axis) (dir : Bool) (count : Count) (s : State) : Result :=
  .next (s.startReserved axis dir count)

/-- `RSV.GOTO`, pattern `11110xxx` (41_pulse_generator.md R143). -/
def execRsvGoto11110 (axis : Axis) (dir : Bool) (count : Count) (s : State) : Result :=
  .next (s.startReserved axis dir count)

/-- `RSV.GOTO`, pattern `111110xx` (41_pulse_generator.md R143). -/
def execRsvGoto111110 (axis : Axis) (dir : Bool) (count : Count) (s : State) : Result :=
  .next (s.startReserved axis dir count)

/-- `RSV.GOTO`, pattern `1111110x` (41_pulse_generator.md R143). -/
def execRsvGoto1111110 (axis : Axis) (dir : Bool) (count : Count) (s : State) : Result :=
  .next (s.startReserved axis dir count)

/-- `RSV.GOTO`, pattern `11111110` (41_pulse_generator.md R143). -/
def execRsvGoto11111110 (axis : Axis) (dir : Bool) (count : Count) (s : State) : Result :=
  .next (s.startReserved axis dir count)

end Sys2Proof.Machine
end

