-- ==== Sys2Proof/Machine/Responses.lean ====
section
/-! DEFINITION. The meanings of `QUERY` and of the four emitted frames, and the tick that sends a byte
(43_response_encoder.md R181 to R189). -/

namespace Sys2Proof.Machine

/-- `M_QRESP`: builds the reply with the given third byte and clears `remote_used` at the same tick
(43_response_encoder.md R184). -/
def State.replyUsed (s : State) (used : Byte) : State :=
  { s.buildFrame 0x00 used with remoteUsed := false }

/-- `QUERY`: the reply reports `remote_used` as it was before the clear (43_response_encoder.md R184, R188). -/
def execQuery (s : State) : Result :=
  .next (s.replyUsed (usedByte s.remoteUsed))

/-- `RESP.RESET`, the boot notice (43_response_encoder.md R181, R189). -/
def execRespReset (s : State) : Result :=
  .next (s.buildFrame statusReset 0x00)

/-- `RESP.OK` (43_response_encoder.md R182). -/
def execRespOk (s : State) : Result :=
  .next (s.buildFrame statusSuccess 0x00)

/-- `RESP.LIMIT` (43_response_encoder.md R182). -/
def execRespLimit (s : State) : Result :=
  .next (s.buildFrame statusLimit 0x00)

/-- `RESP.USED u` (43_response_encoder.md R184). -/
def execRespUsed (used : Byte) (s : State) : Result :=
  .next (s.replyUsed used)

/-- `M_TX`: when the link takes the byte, the next one follows, or after the fourth the cycle ends
(43_response_encoder.md R186). -/
def State.txRule (s : State) (p : PortIn) : State :=
  if p.txReady then
    if s.txIdx = 3 then { s with mstate := .cycleEnd } else { s with txIdx := s.txIdx + 1 }
  else s

end Sys2Proof.Machine
end

