-- ==== Sys2Proof/Machine/Dispatch.lean ====
section
/-! DEFINITION. The meaning of each frame, one arm per constructor of `Instr`. An arm drops the fields its rule ignores
(30_encoding.md R99, R100). -/

namespace Sys2Proof.Machine

/-- The effect of a frame at the tick that executes it (log entry 9). -/
def exec (i : Instr) (s : State) : Host.Outcome State Fault Refusal :=
  match i with
  | .move axis dir _ count => Sys2Proof.Machine.execMove axis dir count s
  | .gotolim axis dir _ count => Sys2Proof.Machine.execGotolim axis dir count s
  | .query _ _ _ _ _ => Sys2Proof.Machine.execQuery s
  | .rsvGoto01 axis dir _ _ count => Sys2Proof.Machine.execRsvGoto01 axis dir count s
  | .rsvGoto10 axis dir _ _ count => Sys2Proof.Machine.execRsvGoto10 axis dir count s
  | .rsvGoto001 axis dir _ _ count => Sys2Proof.Machine.execRsvGoto001 axis dir count s
  | .rsvGoto0001 axis dir _ _ count => Sys2Proof.Machine.execRsvGoto0001 axis dir count s
  | .rsvGoto00001 axis dir _ _ count => Sys2Proof.Machine.execRsvGoto00001 axis dir count s
  | .rsvGoto000001 axis dir _ _ count => Sys2Proof.Machine.execRsvGoto000001 axis dir count s
  | .rsvGoto0000001 axis dir _ _ count => Sys2Proof.Machine.execRsvGoto0000001 axis dir count s
  | .rsvGoto00000001 axis dir _ _ count => Sys2Proof.Machine.execRsvGoto00000001 axis dir count s
  | .rsvGoto110 axis dir _ _ count => Sys2Proof.Machine.execRsvGoto110 axis dir count s
  | .rsvGoto1110 axis dir _ _ count => Sys2Proof.Machine.execRsvGoto1110 axis dir count s
  | .rsvGoto11110 axis dir _ _ count => Sys2Proof.Machine.execRsvGoto11110 axis dir count s
  | .rsvGoto111110 axis dir _ _ count => Sys2Proof.Machine.execRsvGoto111110 axis dir count s
  | .rsvGoto1111110 axis dir _ _ count => Sys2Proof.Machine.execRsvGoto1111110 axis dir count s
  | .rsvGoto11111110 axis dir _ _ count => Sys2Proof.Machine.execRsvGoto11111110 axis dir count s
  | .respReset => Sys2Proof.Machine.execRespReset s
  | .respOk => Sys2Proof.Machine.execRespOk s
  | .respLimit => Sys2Proof.Machine.execRespLimit s
  | .respUsed used => Sys2Proof.Machine.execRespUsed used s

end Sys2Proof.Machine
end

