-- ==== Sys2Proof/Machine/Fetch.lean ====
section
/-! DEFINITION. Which frame MAIN's current state executes (log entry 9), and how a frame is placed so that the next tick executes
it. There is no instruction memory: what corresponds to the fetch is the reading of `buf` after its capture
(20_memory.md R66), and the emitted frames are selected by state (INDEX.md, reading notes). -/

namespace Sys2Proof.Machine

/-- A frame that sets `cmd_pend`: `MOVE`, `GOTOLIM` or `RSV.GOTO` (30_encoding.md R90, tests 4 to 6). -/
def isCommand : Instr → Bool
  | .query _ _ _ _ _ => false
  | .respReset => false
  | .respOk => false
  | .respLimit => false
  | .respUsed _ => false
  | _ => true

/-- A frame that sets `query_pend` (30_encoding.md R90, test 3). -/
def isQuery : Instr → Bool
  | .query _ _ _ _ _ => true
  | _ => false

/-- The captured frame, if the buffer holds one. -/
def State.captured (s : State) : Option Instr :=
  (decode s.buf.frame).frame?

/-- The command frame in the buffer. -/
def State.capturedCommand (s : State) : Option Instr :=
  s.captured.filter isCommand

/-- The frame `M_RESP` builds, by the two flags (43_response_encoder.md R182). -/
def State.statusFrame (s : State) : Instr :=
  if s.unexpectedLimit then .respLimit else .respOk

/-- The frame `M_QRESP` executes: the captured `QUERY`, or, in a state no run reaches in which there is none, the reply it
stands for (43_response_encoder.md R184; log entry 17). -/
def State.queryFrame (s : State) : Instr :=
  if s.queryPend then
    (s.captured.filter isQuery).getD (.respUsed (usedByte s.remoteUsed))
  else .respUsed (usedByte s.remoteUsed)

/-- The frame that MAIN's rule at this tick executes, if the rule is the execution of a frame. -/
def State.fetch (s : State) : Option Instr :=
  match s.mstate with
  | .boot => some .respReset
  | .exec => s.capturedCommand
  | .resp => some s.statusFrame
  | .qresp => some s.queryFrame
  | _ => none

/-! ### Placing a frame -/

/-- A port sample that resets nothing, offers nothing, takes nothing and holds the limit input as it was last sampled. -/
def State.quietSample (s : State) : PortIn :=
  { rst := false, rxValid := false, rxData := 0, txReady := false, limitIn := s.limMeta, adcLr := 0, adcUd := 0 }

/-- MAIN runs at the next tick: no handler is active or pending, and the next port sample is `p`. -/
def State.enableMain (s : State) (p : PortIn) : State :=
  { s with lstate := .idle, limPend := false, inputs := p :: s.inputs }

/-- The state that has just captured the seven bytes after a `START`; a wrong list of bytes leaves the state as it was. -/
def State.withCapture (s : State) : List Byte → State
  | [_, ctrl, g, p3, p2, p1, p0, last] =>
    { s with buf := ⟨ctrl, g, p3, p2, p1, p0, last⟩, rxIdx := 6 }
  | _ => s

/-- The state in which the next tick executes the frame `i`, whose bytes are `bs`: a received frame is captured and dispatched,
an emitted one is what the state selects. -/
def State.placeFrame (s : State) (i : Instr) (bs : List Byte) : State :=
  match i with
  | .respReset => { s.enableMain s.quietSample with mstate := .boot }
  | .respOk => { s.enableMain s.quietSample with mstate := .resp, limitHit := false }
  | .respLimit => { s.enableMain s.quietSample with mstate := .resp, limitHit := true, gotoLimit := false }
  | .respUsed u =>
    { s.enableMain s.quietSample with mstate := .qresp, queryPend := false, remoteUsed := u.getLsbD 0 }
  | .query _ _ _ _ _ =>
    { (s.enableMain s.quietSample).withCapture bs with mstate := .qresp, queryPend := true, cmdPend := false }
  | _ =>
    { (s.enableMain s.quietSample).withCapture bs with mstate := .exec, cmdPend := true, queryPend := false }

/-- The state in which the next tick drops bytes that are no frame: a wrong `END` is found by `M_PARSE` on the captured bytes,
a wrong `START` by `M_POLL` on the offered byte (30_encoding.md R101). Four bytes that are no emitted frame can be placed
nowhere and leave the state as it was. -/
def State.placeNonFrame (s : State) (bs : List Byte) : State :=
  match bs with
  | [b0, _, _, _, _, _, _, _] =>
    if b0 = startByte then
      { (s.enableMain s.quietSample).withCapture bs with mstate := .parse, cmdPend := false, queryPend := false }
    else
      { s.enableMain { s.quietSample with rxValid := true, rxData := b0 } with
        mstate := .poll, cmdPend := false, queryPend := false }
  | _ => s

/-- The state in which the next tick executes what the bytes say. -/
def State.placeBytes (s : State) (bs : List Byte) : State :=
  match (decode bs).frame? with
  | some i => s.placeFrame i bs
  | none => s.placeNonFrame bs

end Sys2Proof.Machine
end

