-- ==== Sys2Proof/Machine/Joystick.lean ====
section
/-! DEFINITION. The joystick controller, JOYSTEP (42_joystick_controller.md R160 to R170). -/

namespace Sys2Proof.Machine

/-- One channel's decision: the delta from the baseline is an exact integer and both comparisons are strict, so a reading on
a threshold is in the deadzone (R164). The answer is the direction to move in, if any. -/
def channelMove (sample : Sample) (base hi lo : Int) (hiDir loDir : Bool) : Option Bool :=
  let delta : Int := (sample.toNat : Int) - base
  if delta > hi then some hiDir
  else if delta < -lo then some loDir
  else none

/-- The left-right decision: above moves negative, below moves positive (R165). -/
def leftRightMove (lr : Sample) : Option Bool :=
  channelMove lr joyLrBase joyLrHi joyLrLo true false

/-- The up-down decision, by the parameters (R166). -/
def upDownMove (q : Params) (ud : Sample) : Option Bool :=
  channelMove ud q.joyUdBase q.joyUdHi q.joyUdLo q.joyUdHiDir q.joyUdLoDir

/-- The move of a poll: left-right on X takes precedence over up-down on Y (R165 to R167). -/
def joystickMove (q : Params) (lr ud : Sample) : Option (Axis × Bool) :=
  match leftRightMove lr with
  | some d => some (.x, d)
  | none => (upDownMove q ud).map fun d => (.y, d)

/-- `M_JOYWAIT`: the first-read delay (R161). -/
def State.joywaitRule (s : State) : State :=
  if s.mCnt ≠ 0 then { s with mCnt := s.mCnt - 1 } else { s with mstate := .joyread }

/-- `M_JOYREAD`: samples both channels and issues the micro-move (R162, R168), or ends the cycle (R169). -/
def State.joyreadRule (s : State) (p : PortIn) : State :=
  match joystickMove s.params p.adcLr p.adcUd with
  | some (a, d) =>
    { s.dirWrite d with
      activeAxis := a
      activeDir := d
      pulseRem := 1
      joyNow := true
      remoteUsed := true
      mstate := .pcheck }
  | none => { s with mstate := .cycleEnd }

end Sys2Proof.Machine
end

