-- ==== Sys2Proof/Machine/LimitMonitor.lean ====
section
/-! DEFINITION. The limit safety monitor, state by state (60_exceptions.md R225 to R233). Its rules apply at every tick and
read the state before the tick. -/

namespace Sys2Proof.Machine

/-- `L_IDLE`: a pending edge starts the handler (R225). -/
def State.lIdleRule (s : State) : State :=
  if s.limPend then s.takeInterrupt else s

/-- `L_DEBOUNCE`: waits without condition (R226). -/
def State.lDebounceRule (s : State) : State :=
  if s.lCnt ≠ 0 then { s with lCnt := s.lCnt - 1 } else { s with lstate := .check }

/-- `L_CHECK`: if the input is still asserted and a command is executing, reverses from the commanded direction (R227, R228);
else the handler ends with no effect. -/
def State.lCheckRule (s : State) : State :=
  if s.limitIn && s.cmdPend then { s.dirWrite (!s.activeDir) with lstate := .loop } else s.leaveInterrupt

/-- `L_LOOP`: tests the input before each retreat pulse (R229). -/
def State.lLoopRule (s : State) : State :=
  if s.limitIn then { s.stepWrite s.activeAxis true with lCnt := s.params.phaseTicks, lstate := .high }
  else { s with lstate := .finish }

/-- `L_HIGH`: high phase of a retreat pulse (R230). -/
def State.lHighRule (s : State) : State :=
  if s.lCnt > 1 then { s with lCnt := s.lCnt - 1 }
  else { s.stepWrite s.activeAxis false with lCnt := s.params.phaseTicks, lstate := .low }

/-- `L_LOW`: low phase of a retreat pulse (R231). -/
def State.lLowRule (s : State) : State :=
  if s.lCnt > 1 then { s with lCnt := s.lCnt - 1 } else { s with lstate := .loop }

/-- `L_FINISH`: sets `limit_hit`, clears `keep_pulsing`, and the handler ends (R233). -/
def State.lFinishRule (s : State) : State :=
  s.markLimitHit.leaveInterrupt

/-- LSM's rule of a tick (60_exceptions.md R225 to R233). -/
def State.lsmRule (s : State) : State :=
  match s.lstate with
  | .idle => s.lIdleRule
  | .debounce => s.lDebounceRule
  | .check => s.lCheckRule
  | .loop => s.lLoopRule
  | .high => s.lHighRule
  | .low => s.lLowRule
  | .finish => s.lFinishRule

end Sys2Proof.Machine
end

