-- ==== Sys2Proof/Machine/PulseGenerator.lean ====
section
/-! DEFINITION. PULSE, the pulse generator's three states (41_pulse_generator.md R133 to R139). -/

namespace Sys2Proof.Machine

/-- `M_PCHECK`: starts a pulse if the continuation flag is set and pulses remain (R135), else restores the flag and leaves the
burst for the state its caller asks for (R136). -/
def State.pcheckRule (s : State) : State :=
  if s.keepPulsing ∧ s.pulseRem ≠ 0 then
    { s.stepWrite s.activeAxis true with mCnt := s.params.phaseTicks, mstate := .phigh }
  else { s.restoreKeepPulsing with mstate := if s.cmdPend then .resp else .cycleEnd }

/-- `M_PHIGH`: the high phase; its last tick is the falling edge (R137). -/
def State.phighRule (s : State) : State :=
  if s.mCnt > 1 then { s with mCnt := s.mCnt - 1 }
  else { s.stepWrite s.activeAxis false with mCnt := s.params.phaseTicks, mstate := .plow }

/-- `M_PLOW`: the low phase; its last tick counts the pair (R138, R139). -/
def State.plowRule (s : State) : State :=
  if s.mCnt > 1 then { s with mCnt := s.mCnt - 1 }
  else { s with pulseRem := s.pulseRem - 1, mstate := .pcheck }

end Sys2Proof.Machine
end

