-- ==== Sys2Proof/Machine/Clock.lean ====
section
/-! DEFINITION. One tick of the block: MAIN's rule by `mstate` (44_control_loop.md R206), the choice of the agent
(10_state.md R34), and reset (R37). -/

namespace Sys2Proof.Machine

/-- MAIN's rule of an enabled tick. The four states that execute a frame go through `exec`. In a state no run reaches, with
`mstate = M_EXEC` and no command frame in the buffer, the rule of `M_EXEC` applies to the buffer as it stands
(41_pulse_generator.md R131; log entry 17). -/
def mainRule (p : PortIn) (s : State) : Result :=
  match s.mstate with
  | .boot => exec .respReset s
  | .poll => .next (s.pollRule p)
  | .collect => collectRule s p
  | .parse => .next s.parseRule
  | .dispatch => .next s.dispatchRule
  | .exec =>
    match s.capturedCommand with
    | some i => exec i s
    | none => .next (s.startCommand (ctrlAxis s.buf.ctrl) (ctrlDir s.buf.ctrl) s.buf.gotoMode s.buf.count)
  | .pcheck => .next s.pcheckRule
  | .phigh => .next s.phighRule
  | .plow => .next s.plowRule
  | .resp => exec s.statusFrame s
  | .qresp => exec s.queryFrame s
  | .tx => .next (s.txRule p)
  | .joywait => .next s.joywaitRule
  | .joyread => .next (s.joyreadRule p)
  | .cycleEnd => .next s.endRule

/-- The rule of a tick with `rst = 0`: MAIN's if `main_en = 1`, else LSM's. LSM's rule does nothing when `main_en = 1`, so this
is both agents' rules at every tick (10_state.md R34, R38; log entry 14). -/
def agentRule (p : PortIn) (s : State) : Result :=
  if s.mainEn then mainRule p s else .next s.lsmRule

/-- One tick: reset, or the agents' rules and with them the synchroniser and the pending latch. -/
def clockTick (s : State) : Result :=
  if s.input.rst then .next s.resetTick
  else
    match agentRule s.input s with
    | .next t => .next (s.latch s.input t)
    | .fault f => .fault f
    | .refused r => .refused r

end Sys2Proof.Machine
end

