-- ==== Sys2Proof/Machine/Step.lean ====
section
/-! DEFINITION. The step of the machine, which is one tick of the clock (00_scope.md R3, tick level; log entry 1), and the
placing of a frame for the very next tick. -/

namespace Sys2Proof.Machine

/-- One step: one tick. -/
def step (s : State) : Host.Outcome State Fault Refusal :=
  clockTick s

/-- `s` with the frame of the table's number `w` of `nbits` bits placed where the next tick executes it (log entry 4). -/
def State.withFetchWord (s : State) (nbits w : Nat) : State :=
  s.placeBytes (wireBytes (nbits / 8) w)

end Sys2Proof.Machine
end

