-- ==== Sys2Proof/Machine/Ports.lean ====
section
/-! DEFINITION. The output ports (10_state.md R26, R28, R29; 20_memory.md R54, R58): combinational functions of the state. -/

namespace Sys2Proof.Machine

/-- `rx_ready`: the block takes an offered byte only as the first byte of a decode attempt or as a payload byte
(20_memory.md R54). -/
def State.rxReady (s : State) : Bool :=
  s.mainEn && ((s.mstate == .poll && !s.cmdPend && !s.queryPend) || s.mstate == .collect)

/-- `tx_valid` (20_memory.md R58). -/
def State.txValid (s : State) : Bool :=
  s.mainEn && s.mstate == .tx

/-- `tx_data`, meaningful while `tx_valid = 1` (20_memory.md R58). -/
def State.txData (s : State) : Byte :=
  s.txBuf.read s.txIdx

/-- The values on the output ports during a tick (10_state.md R29). -/
structure PortOut where
  rxReady : Bool
  txValid : Bool
  txData : Byte
  stepX : Bool
  stepY : Bool
  stepZ : Bool
  dirOut : Bool
  /-- `joy_gnd`, constant 0 (10_state.md R28). -/
  joyGnd : Bool
  /-- `joy_vcc`, constant 1 (10_state.md R28). -/
  joyVcc : Bool
  deriving DecidableEq, Repr, Inhabited

/-- The output ports of a state. -/
def State.outputs (s : State) : PortOut where
  rxReady := s.rxReady
  txValid := s.txValid
  txData := s.txData
  stepX := s.stepX
  stepY := s.stepY
  stepZ := s.stepZ
  dirOut := s.dirOut
  joyGnd := false
  joyVcc := true

/-- The byte that moves into the block at the coming tick (20_memory.md R53). -/
def State.received (s : State) : Option Byte :=
  if s.input.rxValid && s.rxReady then some s.input.rxData else none

/-- The byte that moves to the link at the coming tick (20_memory.md R57). -/
def State.sent (s : State) : Option Byte :=
  if s.input.txReady && s.txValid then some s.txData else none

end Sys2Proof.Machine
end

