-- ==== Sys2Proof/Machine/Trace.lean ====
section
/-! DEFINITION. Runs of ticks and what a host and the motors see of them: the observation trace of 10_state.md R39, which is no
state of the hardware. -/

namespace Sys2Proof.Machine

/-- `k` ticks. -/
def ticks : Nat → State → Result
  | 0, s => .next s
  | k + 1, s =>
    match step s with
    | .next t => ticks k t
    | .fault f => .fault f
    | .refused r => .refused r

/-- One observation (10_state.md R39). -/
inductive Obs where
  /-- A byte taken by the link. -/
  | sent (b : Byte)
  /-- A change of an axis's step output to `v`. -/
  | edge (a : Axis) (v : Bool)
  /-- A change of `dir_out` to `v`. -/
  | dir (v : Bool)
  deriving DecidableEq, Repr, Inhabited

/-- The change of one output register over a tick. -/
def changeObs (before after : Bool) (o : Bool → Obs) : List Obs :=
  if before = after then [] else [o after]

/-- The observations of the tick from `s` to `t`. DESIGN CHOICE: within one tick the byte comes first, then the outputs in the
order X, Y, Z, direction (log entry 19). -/
def tickObs (s t : State) : List Obs :=
  (s.sent.toList.map Obs.sent) ++ changeObs s.stepX t.stepX (Obs.edge .x) ++ changeObs s.stepY t.stepY (Obs.edge .y) ++
    changeObs s.stepZ t.stepZ (Obs.edge .z) ++ changeObs s.dirOut t.dirOut Obs.dir

/-- The observation trace of `k` ticks; it ends where the machine stops. -/
def trace : Nat → State → List Obs
  | 0, _ => []
  | k + 1, s =>
    match step s with
    | .next t => tickObs s t ++ trace k t
    | .fault _ => []
    | .refused _ => []

/-- The bytes the block takes from the received stream during `k` ticks (20_memory.md R53). -/
def receivedBytes : Nat → State → List Byte
  | 0, _ => []
  | k + 1, s =>
    match step s with
    | .next t => s.received.toList ++ receivedBytes k t
    | .fault _ => []
    | .refused _ => []

/-- The bytes a trace sends. -/
def sentBytes (os : List Obs) : List Byte :=
  os.filterMap fun o => match o with
    | .sent b => some b
    | _ => none

/-- The changes of one step output to the level `v`: for `true` the rising edges, each "one unit of motor motion"
(10_state.md R39). -/
def edges (a : Axis) (v : Bool) (os : List Obs) : Nat :=
  os.countP fun o => o == .edge a v

end Sys2Proof.Machine
end

