-- ==== Sys2Proof/Safety.lean ====
section
/-! DEFINITION. What counts as a safe state and a well-behaved environment, in the terms the statements use: the invariant of
the block, the successor table of 44_control_loop.md R206, the elements each agent owns (10_state.md R38), and the
hypotheses on `ENV` (70_reset_and_hazards.md R264). -/

namespace Sys2Proof.Machine

/-! ### The emitted frames -/

/-- The byte sequences the block sends, and no other (30_encoding.md R106). -/
def emittedFrames : List (List Byte) :=
  [[0x07, 0xFF, 0x00, 0x0A], [0x07, 0xF0, 0x00, 0x0A], [0x07, 0x0F, 0x00, 0x0A], [0x07, 0x00, 0x00, 0x0A],
    [0x07, 0x00, 0x01, 0x0A]]

/-! ### The invariant -/

/-- MAIN is inside PULSE (41_pulse_generator.md: `M_PCHECK`, `M_PHIGH`, `M_PLOW`). -/
def MState.inBurst (m : MState) : Bool :=
  m == .pcheck || m == .phigh || m == .plow

/-- No command and no query is pending in these states: the boot and decode states, and the joystick poll
(40_command_decoder.md R110, R114; 44_control_loop.md R202, R207). -/
def MState.nothingPending (m : MState) : Bool :=
  m == .boot || m == .poll || m == .collect || m == .parse || m == .joywait || m == .joyread

/-- The limit handler is acting on the outputs: it is past `L_CHECK` (60_exceptions.md R227 to R233). -/
def LState.acting (l : LState) : Bool :=
  l == .loop || l == .high || l == .low || l == .finish

/-- The invariant of the block: what the spec says of every state a run reaches. -/
structure State.Inv (s : State) : Prop where
  /-- The parameters are in the ranges of 00_scope.md R2. -/
  params_valid : s.params.Valid
  /-- `rx_idx` is 0 to 6 (10_state.md R14). -/
  rx_index : s.rxIdx ≠ 7
  /-- `m_cnt` holds no more than the longest wait, so it fits `TIMER_W` bits (10_state.md R30). -/
  main_counter : s.mCnt ≤ s.params.timerMax
  /-- `l_cnt` likewise. -/
  limit_counter : s.lCnt ≤ s.params.timerMax
  /-- At most one of `cmd_pend` and `query_pend` is 1 (40_command_decoder.md R114). -/
  one_pending : ¬(s.cmdPend = true ∧ s.queryPend = true)
  /-- Both are 0 in the boot, decode and joystick states (40_command_decoder.md R114). -/
  none_pending : s.mstate.nothingPending = true → s.cmdPend = false ∧ s.queryPend = false
  /-- `M_EXEC` and `M_RESP` are reached only with `cmd_pend = 1` (44_control_loop.md R207). -/
  command_states : s.mstate = .exec ∨ s.mstate = .resp → s.cmdPend = true
  /-- `M_QRESP` is reached only with `query_pend = 1` (43_response_encoder.md R184). -/
  query_state : s.mstate = .qresp → s.queryPend = true
  /-- No burst runs in a query cycle (43_response_encoder.md R188). -/
  burst_no_query : s.mstate.inBurst = true → s.queryPend = false
  /-- A burst drives one of the three axes (41_pulse_generator.md R132, R135). -/
  burst_axis : s.mstate.inBurst = true → s.activeAxis ≠ .reserved
  /-- Inside a pulse `pulse_rem` is not 0, so the decrement never wraps (41_pulse_generator.md R138, R139). -/
  pulse_started : s.mstate = .phigh ∨ s.mstate = .plow → s.pulseRem ≠ 0
  /-- A step output is 1 only inside a high phase, and only the active axis's (10_state.md R26). -/
  step_high : ∀ a, s.stepOf a = true → a = s.activeAxis ∧ (s.mstate = .phigh ∨ s.lstate = .high)
  /-- The handler acts only during a command, with the direction reversed (60_exceptions.md R227, R228). -/
  acting_handler : s.lstate.acting = true → s.cmdPend = true ∧ s.dirOut = !s.activeDir
  /-- `goto_limit` is 1 only during a command (10_state.md R21). -/
  goto_command : s.gotoLimit = true → s.cmdPend = true
  /-- `limit_hit` is 1 only during a command (10_state.md R22, 60_exceptions.md R241). -/
  limit_command : s.limitHit = true → s.cmdPend = true
  /-- `joy_now` is 1 only from the micro-move to the end of its cycle, and then the move is recorded in `remote_used`
  (10_state.md R24, R25). -/
  joystick_cycle : s.joyNow = true →
    (s.mstate.inBurst = true ∨ s.mstate = .cycleEnd) ∧ s.cmdPend = false ∧ s.queryPend = false ∧ s.remoteUsed = true
  /-- A burst without a command is a micro-move (44_control_loop.md R207). -/
  burst_caller : s.mstate.inBurst = true → s.cmdPend = true ∨ s.joyNow = true
  /-- After the boot frame is built the transmit buffer always holds one of the emitted frames (30_encoding.md R106). -/
  frame_legal : s.mstate ≠ .boot → s.txBuf.bytes ∈ emittedFrames

/-- A quiescent state (70_reset_and_hazards.md R265). -/
def State.quiescent (s : State) : Bool :=
  s.mstate == .poll && s.lstate == .idle && !s.limPend && !s.stepX && !s.stepY && !s.stepZ

/-! ### MAIN's successor table -/

/-- The table of 44_control_loop.md R206, line by line, for a tick with `main_en = 1`. -/
def State.successor (s : State) (p : PortIn) : MState :=
  match s.mstate with
  | .boot => .tx
  | .tx => if p.txReady = true ∧ s.txIdx = 3 then .cycleEnd else .tx
  | .cycleEnd => .poll
  | .poll =>
    if s.cmdPend = true ∨ s.queryPend = true then .dispatch
    else if p.rxValid = true ∧ p.rxData = 0x07 then .collect
    else .dispatch
  | .collect => if p.rxValid = true ∧ s.rxIdx = 6 then .parse else .collect
  | .parse => .dispatch
  | .dispatch => if s.cmdPend = true then .exec else if s.queryPend = true then .qresp else .joywait
  | .exec => if s.buf.ctrl.extractLsb' 6 2 = 3 then .resp else .pcheck
  | .pcheck =>
    if s.keepPulsing = true ∧ s.pulseRem ≠ 0 then .phigh else if s.cmdPend = true then .resp else .cycleEnd
  | .phigh => if s.mCnt ≤ 1 then .plow else .phigh
  | .plow => if s.mCnt ≤ 1 then .pcheck else .plow
  | .resp => .tx
  | .qresp => .tx
  | .joywait => if s.mCnt = 0 then .joyread else .joywait
  | .joyread => if (joystickMove s.params p.adcLr p.adcUd).isSome then .pcheck else .cycleEnd

/-! ### Who owns what (10_state.md R34, R38) -/

/-- Every element only MAIN writes has the same value in both states, and so have the parameters. -/
structure SameMain (s t : State) : Prop where
  mstate : t.mstate = s.mstate
  mCnt : t.mCnt = s.mCnt
  rxIdx : t.rxIdx = s.rxIdx
  txIdx : t.txIdx = s.txIdx
  buf : t.buf = s.buf
  txBuf : t.txBuf = s.txBuf
  pulseRem : t.pulseRem = s.pulseRem
  cmdPend : t.cmdPend = s.cmdPend
  queryPend : t.queryPend = s.queryPend
  gotoLimit : t.gotoLimit = s.gotoLimit
  joyNow : t.joyNow = s.joyNow
  joyPrev : t.joyPrev = s.joyPrev
  remoteUsed : t.remoteUsed = s.remoteUsed
  activeAxis : t.activeAxis = s.activeAxis
  activeDir : t.activeDir = s.activeDir
  params : t.params = s.params

/-- The elements both agents write (outputs, `limit_hit`, `keep_pulsing`) have the same value in both states. -/
structure SameShared (s t : State) : Prop where
  stepX : t.stepX = s.stepX
  stepY : t.stepY = s.stepY
  stepZ : t.stepZ = s.stepZ
  dirOut : t.dirOut = s.dirOut
  limitHit : t.limitHit = s.limitHit
  keepPulsing : t.keepPulsing = s.keepPulsing

/-! ### Hypotheses on the environment (70_reset_and_hazards.md R264) -/

/-- No reset at the next `k` ticks. -/
abbrev State.NoReset (s : State) (k : Nat) : Prop :=
  ∀ j < k, (s.inputAt j).rst = false

/-- The link takes a byte at every one of the next `k` ticks. -/
abbrev State.LinkReady (s : State) (k : Nat) : Prop :=
  ∀ j < k, (s.inputAt j).txReady = true

/-- MAIN is not held, and the limit input, in the synchroniser and at the next `k` ticks, never goes from 0 to 1. It may rest at
1 (70_reset_and_hazards.md R276) or fall. -/
abbrev State.LimitNoRise (s : State) (k : Nat) : Prop :=
  s.mainEn = true ∧ (s.limS = true → s.limPrev = true) ∧ (s.limMeta = true → s.limS = true) ∧
    ((s.inputAt 0).limitIn = true → s.limMeta = true) ∧
    ∀ j < k - 1, (s.inputAt (j + 1)).limitIn = true → (s.inputAt j).limitIn = true

/-- The limit input reads 1 in the synchroniser and at every one of the next `k` ticks. -/
abbrev State.LimitHeld (s : State) (k : Nat) : Prop :=
  s.limMeta = true ∧ s.limS = true ∧ ∀ j < k, (s.inputAt j).limitIn = true

/-- The bytes are offered one at each of the next ticks. -/
abbrev State.Offers (s : State) (bs : List Byte) : Prop :=
  ∀ j < bs.length, (s.inputAt j).rxValid = true ∧ (s.inputAt j).rxData = bs.getD j 0

/-- MAIN applies its rule at the coming tick: no reset, and `main_en = 1` (10_state.md R34). -/
abbrev State.Enabled (s : State) : Prop :=
  s.input.rst = false ∧ s.mainEn = true

/-- MAIN is held at the coming tick: no reset, and `main_en = 0` (10_state.md R34). -/
abbrev State.Held (s : State) : Prop :=
  s.input.rst = false ∧ s.mainEn = false

/-! ### A command from its execution, or from its first byte, to the next `M_POLL` -/

/-- For `k` ticks `ENV` keeps the duties of 70_reset_and_hazards.md R264: no reset, a link that takes every byte, no limit
event. -/
structure CalmFor (k : Nat) (s : State) : Prop where
  no_reset : s.NoReset k
  link_ready : s.LinkReady k
  limit_no_rise : s.LimitNoRise k

/-- A command is about to be executed, and nothing of an earlier hazard is left behind (70_reset_and_hazards.md R273, R274). -/
structure CommandReady (k : Nat) (s : State) : Prop where
  inv : s.Inv
  executing : s.mstate = .exec
  continuing : s.keepPulsing = true
  no_limit_hit : s.limitHit = false
  calm : CalmFor k s

/-- The block is quiescent (70_reset_and_hazards.md R265), with `keep_pulsing` at either value (R274), and the host offers the
bytes of one frame, one at each tick. -/
structure FrameOffered (k : Nat) (s : State) (bs : List Byte) : Prop where
  inv : s.Inv
  quiescent : s.quiescent = true
  offered : s.Offers bs
  calm : CalmFor k s

/-- The net effect of a command that ran for `k` ticks with `n` pairs on the given axis (41_pulse_generator.md R141): MAIN polls
again, the session holds the command's axis and direction, the per-cycle flags are clear, `keep_pulsing` is 1, `remote_used` is
as before; the selected step output rose and fell `n` times and no other moved; and `RESP.OK` was sent, nothing else. -/
structure CommandDone (k : Nat) (s t : State) (axis : Axis) (dir : Bool) (n : Nat) : Prop where
  reached : ticks k s = .next t
  polling : t.mstate = .poll
  active_axis : t.activeAxis = axis
  active_dir : t.activeDir = dir
  dir_out : t.dirOut = dir
  steps_low : t.stepX = false ∧ t.stepY = false ∧ t.stepZ = false
  continuing : t.keepPulsing = true
  flags_clear : t.cmdPend = false ∧ t.queryPend = false ∧ t.gotoLimit = false ∧ t.limitHit = false ∧ t.joyNow = false ∧
    t.joyPrev = false
  remote_used : t.remoteUsed = s.remoteUsed
  rising : edges axis true (trace k s) = n
  falling : edges axis false (trace k s) = n
  other_axes : ∀ b v, b ≠ axis → edges b v (trace k s) = 0
  response : sentBytes (trace k s) = [0x07, 0xF0, 0x00, 0x0A]

end Sys2Proof.Machine
end

