-- ==== Sys2Proof/Certificates/Slice0/Obligations.lean ====
section
/-! DEFINITION. The statements for the provers. Each docstring names the rule of spec/ it formalises. `s.latch s.input t` is what
a tick adds around the agents' rules: the synchroniser, the pending latch and the environment's clock, stated by
`TickShiftsSynchroniser`. -/

open Sys2Proof Sys2Proof.Machine

/-! ### Frames -/

/-- 30_encoding.md R81, R82, R84, R85, R87, R90: decoding an encoded well-formed frame gives the frame back, with every field at
every value. -/
def Obligations.DecodeInvertsEncode : Prop :=
  ∀ i : Instr, i.wellFormed = true → decode (encode i) = .frame i

/-- The other direction: bytes that decode are the encoding of the frame they decode to, and it is well-formed, so no two byte
sequences are one frame. -/
def Obligations.EncodeInvertsDecode : Prop :=
  ∀ (bs : List Byte) (i : Instr), decode bs = .frame i → i.wellFormed = true ∧ encode i = bs

/-- 30_encoding.md R96, R97, R106: a frame selects the row of the frame it decodes to, and bytes that select a row decode to a
frame of that row; so the rows are mutually exclusive. -/
def Obligations.DecodedFrameSelectsItsOnlyRow : Prop :=
  (∀ (bs : List Byte) (i : Instr), decode bs = .frame i → (rowOf i).selects bs = true) ∧
  (∀ (bs : List Byte) (i : Instr), (rowOf i).selects bs = true → ∃ j, decode bs = .frame j ∧ rowOf j = rowOf i)

/-- 30_encoding.md R90, R89: the verdict on eight bytes by the six tests in their order, with every field of the frame read from
its bits. -/
def Obligations.VerdictOnEightBytes : Prop :=
  ∀ b0 c g p3 p2 p1 p0 b7 : Byte,
    (b0 ≠ 0x07 → decode [b0, c, g, p3, p2, p1, p0, b7] = .rejected .wrongStart) ∧
    (b0 = 0x07 → b7 ≠ 0x0A → decode [b0, c, g, p3, p2, p1, p0, b7] = .rejected .wrongEnd) ∧
    (b0 = 0x07 → b7 = 0x0A → c.getLsbD 0 = true →
      decode [b0, c, g, p3, p2, p1, p0, b7] = .frame
        (.query (Axis.ofBits (c.extractLsb' 6 2)) (c.getLsbD 5) (c.extractLsb' 1 4) g (p3 ++ p2 ++ p1 ++ p0))) ∧
    (b0 = 0x07 → b7 = 0x0A → c.getLsbD 0 = false → g = 0xFF →
      decode [b0, c, g, p3, p2, p1, p0, b7] = .frame
        (.gotolim (Axis.ofBits (c.extractLsb' 6 2)) (c.getLsbD 5) (c.extractLsb' 1 4) (p3 ++ p2 ++ p1 ++ p0))) ∧
    (b0 = 0x07 → b7 = 0x0A → c.getLsbD 0 = false → g = 0x00 →
      decode [b0, c, g, p3, p2, p1, p0, b7] = .frame
        (.move (Axis.ofBits (c.extractLsb' 6 2)) (c.getLsbD 5) (c.extractLsb' 1 4) (p3 ++ p2 ++ p1 ++ p0))) ∧
    (b0 = 0x07 → b7 = 0x0A → c.getLsbD 0 = false → g ≠ 0xFF → g ≠ 0x00 →
      ∃ i, decode [b0, c, g, p3, p2, p1, p0, b7] = .frame i ∧ i.wellFormed = true ∧
        i = reservedGoto (Axis.ofBits (c.extractLsb' 6 2)) (c.getLsbD 5) (c.extractLsb' 1 4) g (p3 ++ p2 ++ p1 ++ p0))

/-- Frames written out bit by bit from 30_encoding.md R81 to R88 and R97 to R99 and the rows of spec/opcode_table.json: eleven
that decode, and two with a wrong `END` or `START`. -/
def Obligations.WrittenOutWordsDecode : Prop :=
  decodeTableWord 64 0x07A000123456780A = some (.move .z true 0 0x12345678) ∧
  decodeTableWord 64 0x075E00000000010A = some (.move .y false 0xF 1) ∧
  decodeTableWord 64 0x0780FF000000070A = some (.gotolim .z false 0 7) ∧
  decodeTableWord 64 0x070100000000000A = some (.query .x false 0 0 0) ∧
  decodeTableWord 64 0x07007F000000020A = some (.rsvGoto01 .x false 0 0x7F 2) ∧
  decodeTableWord 64 0x070A0A0A0A0A0A0A = some (.rsvGoto00001 .x false 5 0x0A 0x0A0A0A0A) ∧
  decodeTableWord 64 0x07C000000000050A = some (.move .reserved false 0 5) ∧
  decodeTableWord 32 0x07FF000A = some .respReset ∧
  decodeTableWord 32 0x07F0000A = some .respOk ∧
  decodeTableWord 32 0x070F000A = some .respLimit ∧
  decodeTableWord 32 0x0700010A = some (.respUsed 1) ∧
  decodeTableWord 64 0x070000000000030B = none ∧
  decodeTableWord 64 0x060000000000030A = none

/-! ### The meanings of the frames: each answers a next state, and everything not named is unchanged

That `exec` is the tick that gives a frame its effect is the model's choice (log entry 9); what that tick does is the rule's. -/

/-- 41_pulse_generator.md R131, R132 with `g = 0`: `MOVE` latches its axis, direction and count, drives the direction output,
clears `goto_limit`, and starts the burst, or goes straight to the response when the axis is reserved. The tick at which `exec`
stands is the model's choice (log entry 9). -/
def Obligations.MoveLatchesItsOperands : Prop :=
  ∀ (axis : Axis) (dir : Bool) (ign : BitVec 4) (count : Count) (s : State),
    exec (.move axis dir ign count) s =
      .next { s with
        activeAxis := axis
        activeDir := dir
        dirOut := dir
        gotoLimit := false
        pulseRem := count
        mstate := if axis = .reserved then .resp else .pcheck }

/-- 41_pulse_generator.md R131, R132 with `g = 1`: `GOTOLIM` ignores its count and asks for 4294967295 pulses. The tick
at which `exec` stands is the model's choice (log entry 9). -/
def Obligations.GotolimAsksForTheLargestCount : Prop :=
  ∀ (axis : Axis) (dir : Bool) (ign : BitVec 4) (count : Count) (s : State),
    exec (.gotolim axis dir ign count) s =
      .next { s with
        activeAxis := axis
        activeDir := dir
        dirOut := dir
        gotoLimit := true
        pulseRem := 0xFFFFFFFF
        mstate := if axis = .reserved then .resp else .pcheck }

/-- 30_encoding.md R97, 41_pulse_generator.md R143: each of the fourteen reserved forms has the effect of `MOVE` with the same
operands (decision D10 of the spec, log entry 11). The tick at which `exec` stands is the model's choice (log entry 9). -/
def Obligations.ReservedFormsActAsMove : Prop :=
  ∀ (i : Instr) (axis : Axis) (dir : Bool) (ign : BitVec 4) (g : Byte) (count : Count) (s : State),
    i ∈ [.rsvGoto01 axis dir ign g count, .rsvGoto10 axis dir ign g count, .rsvGoto001 axis dir ign g count,
      .rsvGoto0001 axis dir ign g count, .rsvGoto00001 axis dir ign g count, .rsvGoto000001 axis dir ign g count,
      .rsvGoto0000001 axis dir ign g count, .rsvGoto00000001 axis dir ign g count, .rsvGoto110 axis dir ign g count,
      .rsvGoto1110 axis dir ign g count, .rsvGoto11110 axis dir ign g count, .rsvGoto111110 axis dir ign g count,
      .rsvGoto1111110 axis dir ign g count, .rsvGoto11111110 axis dir ign g count] →
    exec i s =
      .next { s with
        activeAxis := axis
        activeDir := dir
        dirOut := dir
        gotoLimit := false
        pulseRem := count
        mstate := if axis = .reserved then .resp else .pcheck }

/-- 43_response_encoder.md R184, R188: `QUERY` builds `07 00 0u 0A` with the value of `remote_used` before the clear, and reads
no field of its frame. The tick at which `exec` stands is the model's choice (log entry 9). -/
def Obligations.QueryReportsAndClearsRemoteUsed : Prop :=
  ∀ (axis : Axis) (dir : Bool) (ign : BitVec 4) (g : Byte) (count : Count) (s : State),
    exec (.query axis dir ign g count) s =
      .next { s with
        txBuf := ⟨0x07, 0x00, if s.remoteUsed = true then 0x01 else 0x00, 0x0A⟩
        txIdx := 0
        remoteUsed := false
        mstate := .tx }

/-- 43_response_encoder.md R181, R182, R184: the effect of each emitted frame is that it is built, to be sent from its first
byte on. That this is the meaning of an emitted frame is the model's choice (log entry 9). -/
def Obligations.EmittedFramesAreBuilt : Prop :=
  ∀ (s : State) (u : Byte),
    exec .respReset s = .next { s with txBuf := ⟨0x07, 0xFF, 0x00, 0x0A⟩, txIdx := 0, mstate := .tx } ∧
    exec .respOk s = .next { s with txBuf := ⟨0x07, 0xF0, 0x00, 0x0A⟩, txIdx := 0, mstate := .tx } ∧
    exec .respLimit s = .next { s with txBuf := ⟨0x07, 0x0F, 0x00, 0x0A⟩, txIdx := 0, mstate := .tx } ∧
    exec (.respUsed u) s =
      .next { s with txBuf := ⟨0x07, 0x00, u, 0x0A⟩, txIdx := 0, remoteUsed := false, mstate := .tx }

/-! ### The step: the frame it runs, reset, and what every tick does -/

/-- A step runs the decoded frame: in the four states that execute a frame, an enabled tick is `exec` of that frame, and around it
the synchroniser, the pending latch and the environment's clock. The frame is the one the captured bytes decode to
(40_command_decoder.md R113, 41_pulse_generator.md R131), or the one the state stands for (43_response_encoder.md R181, R182,
R184). That `exec` stands at these ticks is the model's choice (log entry 9). -/
def Obligations.StepRunsTheFetchedFrame : Prop :=
  (∀ (s t : State) (i : Instr), s.Enabled → s.fetch = some i → exec i s = .next t →
    step s = .next { t with
      limMeta := s.input.limitIn
      limS := s.limMeta
      limPrev := s.limS
      limPend := (s.limS && !s.limPrev) || (s.limPend && s.lstate != .idle)
      inputs := s.inputs.tail
      tick := s.tick + 1 }) ∧
  (∀ (s : State) (i : Instr), s.mstate = .exec → isCommand i = true → decode s.buf.frame = .frame i →
    s.fetch = some i) ∧
  (∀ (s : State) (i : Instr), s.mstate = .qresp → s.queryPend = true → isQuery i = true → decode s.buf.frame = .frame i →
    s.fetch = some i) ∧
  (∀ s : State, s.mstate = .qresp → s.queryPend = false →
    s.fetch = some (.respUsed (if s.remoteUsed = true then 0x01 else 0x00))) ∧
  (∀ s : State, s.mstate = .boot → s.fetch = some .respReset) ∧
  (∀ s : State, s.mstate = .resp →
    s.fetch = some (if s.limitHit = true ∧ s.gotoLimit = false then .respLimit else .respOk))

/-- 10_state.md R37: at a tick with `rst = 1` every element takes the value of the table, whatever it was before (the
model's own three fields are left open here); `joy_gnd` and `joy_vcc` are constants. -/
def Obligations.ResetClearsEveryElement : Prop :=
  ∀ s : State, s.input.rst = true →
    (∃ t, step s = .next t ∧ t = {
      buf := ⟨0x00, 0x00, 0x00, 0x00, 0x00, 0x00, 0x00⟩
      rxIdx := 0
      pulseRem := 0
      txBuf := ⟨0x00, 0x00, 0x00, 0x00⟩
      txIdx := 0
      activeAxis := .x
      activeDir := false
      cmdPend := false
      queryPend := false
      gotoLimit := false
      limitHit := false
      keepPulsing := true
      joyNow := false
      joyPrev := false
      remoteUsed := false
      mstate := .boot
      lstate := .idle
      mCnt := 0
      lCnt := 0
      limMeta := true
      limS := true
      limPrev := true
      limPend := false
      stepX := false
      stepY := false
      stepZ := false
      dirOut := false
      params := t.params
      inputs := t.inputs
      tick := t.tick }) ∧
    ∀ t : State, t.outputs.joyGnd = false ∧ t.outputs.joyVcc = true

/-- 10_state.md R31, R33, 60_exceptions.md R221: at every tick without reset the synchroniser shifts, whatever the agents do, and the
pending latch takes an edge, lets go of one that is served, and otherwise holds. -/
def Obligations.TickShiftsSynchroniser : Prop :=
  ∀ s t : State, s.input.rst = false → step s = .next t →
    t.limMeta = s.input.limitIn ∧ t.limS = s.limMeta ∧ t.limPrev = s.limS ∧ s.limitIn = s.limS ∧
    (s.edge = true ↔ s.limS = true ∧ s.limPrev = false) ∧
    (t.limPend = true ↔ (s.limS = true ∧ s.limPrev = false) ∨ (s.limPend = true ∧ s.lstate ≠ .idle))

/-- 10_state.md R34: MAIN is enabled exactly when no handler runs or is pending; while it is held no element it owns changes and
no byte is taken or sent. -/
def Obligations.HeldMainKeepsItsState : Prop :=
  ∀ s : State, (s.mainEn = true ↔ s.lstate = .idle ∧ s.limPend = false) ∧
    (s.Held → (∃ t, step s = .next t ∧ SameMain s t) ∧ s.outputs.rxReady = false ∧ s.outputs.txValid = false ∧
      s.received = none ∧ s.sent = none)

/-- 10_state.md R38: the writers of each element, and for the shared elements the states that write them. -/
def Obligations.AgentsKeepToTheirElements : Prop :=
  (∀ s t : State, s.Enabled → step s = .next t →
    t.lstate = s.lstate ∧ t.lCnt = s.lCnt ∧
    (t.limitHit ≠ s.limitHit → s.mstate = .cycleEnd ∧ t.limitHit = false) ∧
    (t.keepPulsing ≠ s.keepPulsing → s.mstate = .pcheck ∧ t.keepPulsing = true) ∧
    (t.stepX ≠ s.stepX ∨ t.stepY ≠ s.stepY ∨ t.stepZ ≠ s.stepZ → s.mstate = .pcheck ∨ s.mstate = .phigh) ∧
    (t.dirOut ≠ s.dirOut → s.mstate = .exec ∨ s.mstate = .joyread)) ∧
  (∀ s t : State, s.Held → step s = .next t →
    SameMain s t ∧
    (t.limitHit ≠ s.limitHit → s.lstate = .finish ∧ t.limitHit = true) ∧
    (t.keepPulsing ≠ s.keepPulsing → s.lstate = .finish ∧ t.keepPulsing = false) ∧
    (t.stepX ≠ s.stepX ∨ t.stepY ≠ s.stepY ∨ t.stepZ ≠ s.stepZ → s.lstate = .loop ∨ s.lstate = .high) ∧
    (t.dirOut ≠ s.dirOut → s.lstate = .check))

/-- 44_control_loop.md R206: MAIN's successor relation is exactly the table `State.successor`, and `M_BOOT` has no predecessor but
reset. -/
def Obligations.SuccessorsAreTheTable : Prop :=
  ∀ s t : State, step s = .next t →
    (s.input.rst = true → t.mstate = .boot) ∧
    (s.Enabled → t.mstate = s.successor s.input ∧ t.mstate ≠ .boot) ∧
    (s.Held → t.mstate = s.mstate)

/-! ### The command decoder -/

/-- 40_command_decoder.md R110, R111: `M_POLL` reads no byte while something is pending, and otherwise at most one, which opens a
capture exactly if it is `0x07` and is dropped if it is not. -/
def Obligations.PollReadsAtMostOneByte : Prop :=
  ∀ s : State, s.Enabled → s.mstate = .poll →
    (s.cmdPend = true ∨ s.queryPend = true →
      s.received = none ∧ step s = .next (s.latch s.input { s with mstate := .dispatch })) ∧
    (s.cmdPend = false → s.queryPend = false → s.input.rxValid = false →
      s.received = none ∧ step s = .next (s.latch s.input { s with mstate := .dispatch })) ∧
    (s.cmdPend = false → s.queryPend = false → s.input.rxValid = true → s.input.rxData = 0x07 →
      s.received = some 0x07 ∧ step s = .next (s.latch s.input { s with rxIdx := 0, mstate := .collect })) ∧
    (s.cmdPend = false → s.queryPend = false → s.input.rxValid = true → s.input.rxData ≠ 0x07 →
      s.received = some s.input.rxData ∧ step s = .next (s.latch s.input { s with mstate := .dispatch }))

/-- 40_command_decoder.md R112: `M_COLLECT` waits for a byte, stores it uninspected at its index, the frame's byte `rx_idx + 1`,
and leaves for `M_PARSE` after the seventh. -/
def Obligations.CollectStoresEachByte : Prop :=
  ∀ s : State, s.Enabled → s.mstate = .collect → s.rxIdx ≠ 7 →
    (s.input.rxValid = false → s.received = none ∧ step s = .next (s.latch s.input s)) ∧
    (s.input.rxValid = true → s.received = some s.input.rxData ∧
      ∃ b : Payload, b.frame = s.buf.frame.set (s.rxIdx.toNat + 1) s.input.rxData ∧
        step s = .next (s.latch s.input { s with
          buf := b
          rxIdx := if s.rxIdx = 6 then s.rxIdx else s.rxIdx + 1
          mstate := if s.rxIdx = 6 then .parse else .collect }))

/-- The one fault of the model: a payload byte for a register that does not exist. 10_state.md R14 says that the index 7 is never
reached; that the model stops there is its own choice (log entry 8). -/
def Obligations.CollectAtIndexSevenStops : Prop :=
  ∀ s : State, s.Enabled → s.mstate = .collect → s.rxIdx = 7 →
    (s.input.rxValid = true → step s = .fault .rxIndexOutOfRange) ∧
    (s.input.rxValid = false → step s = .next (s.latch s.input s))

/-- 40_command_decoder.md R113: `M_PARSE` marks a query or a command pending when the last byte is `0x0A`, and nothing otherwise. -/
def Obligations.ParseMarksWhatIsPending : Prop :=
  ∀ s : State, s.Enabled → s.mstate = .parse →
    step s = .next (s.latch s.input { s with
      queryPend := if s.buf.last = 0x0A ∧ s.buf.ctrl.getLsbD 0 = true then true else s.queryPend
      cmdPend := if s.buf.last = 0x0A ∧ s.buf.ctrl.getLsbD 0 = false then true else s.cmdPend
      mstate := .dispatch })

/-- 30_encoding.md R90 with 40_command_decoder.md R113: the flags the hardware sets from one byte and one bit are the decoder's
verdict on all eight bytes. -/
def Obligations.ParseAgreesWithTheDecoder : Prop :=
  ∀ s : State, s.Enabled → s.mstate = .parse → s.cmdPend = false → s.queryPend = false →
    ∃ t, step s = .next t ∧
      (t.cmdPend = true ↔ ∃ i, decode s.buf.frame = .frame i ∧ isCommand i = true) ∧
      (t.queryPend = true ↔ ∃ i, decode s.buf.frame = .frame i ∧ isQuery i = true)

/-- 20_memory.md R51, R53, R59, R66 and 40_command_decoder.md R111, R112: from a poll with nothing pending, whenever the bytes come
and however often the handler intervenes, the capture holds the eight bytes in the order of their arrival. -/
def Obligations.CaptureKeepsArrivalOrder : Prop :=
  ∀ (s t : State) (k : Nat) (payload : List Byte),
    s.mstate = .poll → s.cmdPend = false → s.queryPend = false → s.NoReset k →
    payload.length = 7 → receivedBytes k s = 0x07 :: payload → ticks k s = .next t →
    t.buf.frame = receivedBytes k s

/-- 40_command_decoder.md R115: in a cycle, from a poll to the next, the decoder takes no byte if none is offered at the poll, one
if that is not `0x07`, and eight if it is. -/
def Obligations.CycleTakesNoneOneOrEightBytes : Prop :=
  ∀ (s t : State) (k : Nat),
    s.mainEn = true → s.mstate = .poll → s.cmdPend = false → s.queryPend = false → s.NoReset k →
    0 < k → ticks k s = .next t → t.mstate = .poll →
    (∀ j < k, 0 < j → ∀ u, ticks j s = .next u → u.mstate ≠ .poll) →
    (receivedBytes k s).length =
      if s.input.rxValid = false then 0 else if s.input.rxData = 0x07 then 8 else 1

/-! ### The control loop -/

/-- 44_control_loop.md R202: a command goes first, then a query, else the joystick poll with its delay. -/
def Obligations.DispatchPrefersCommandThenQuery : Prop :=
  ∀ s : State, s.Enabled → s.mstate = .dispatch →
    step s = .next (s.latch s.input
      (if s.cmdPend = true then { s with mstate := .exec }
      else if s.queryPend = true then { s with mstate := .qresp }
      else if s.joyPrev = true then { s with mCnt := 0, mstate := .joywait }
      else { s with mCnt := s.params.joyDelayTicks, mstate := .joywait }))

/-- 44_control_loop.md R205: `M_END` clears the six per-cycle flags and nothing else. -/
def Obligations.CycleEndClearsTheSixFlags : Prop :=
  ∀ s : State, s.Enabled → s.mstate = .cycleEnd →
    step s = .next (s.latch s.input { s with
      joyPrev := s.joyNow
      joyNow := false
      cmdPend := false
      queryPend := false
      gotoLimit := false
      limitHit := false
      mstate := .poll })

/-! ### The pulse generator -/

/-- 41_pulse_generator.md R131: `M_EXEC` latches every field of the captured frame at one tick and writes nothing else. -/
def Obligations.ExecTickLatchesTheFields : Prop :=
  ∀ s : State, s.Enabled → s.mstate = .exec →
    step s = .next (s.latch s.input { s with
      activeAxis := Axis.ofBits (s.buf.ctrl.extractLsb' 6 2)
      activeDir := s.buf.ctrl.getLsbD 5
      dirOut := s.buf.ctrl.getLsbD 5
      gotoLimit := s.buf.gotoByte == 0xFF
      pulseRem := if s.buf.gotoByte = 0xFF then 0xFFFFFFFF else s.buf.p3 ++ s.buf.p2 ++ s.buf.p1 ++ s.buf.p0
      mstate := if s.buf.ctrl.extractLsb' 6 2 = 3 then .resp else .pcheck })

/-- 41_pulse_generator.md R135, R136 and 10_state.md R27: `M_PCHECK` raises the one step output of the active axis if the
continuation flag is set and pulses remain; otherwise it restores the flag and leaves for its caller. -/
def Obligations.PulseCheckStartsOrLeaves : Prop :=
  ∀ s : State, s.Enabled → s.mstate = .pcheck →
    (s.keepPulsing = true → s.pulseRem ≠ 0 →
      step s = .next (s.latch s.input { s with
        stepX := if s.activeAxis = .x then true else s.stepX
        stepY := if s.activeAxis = .y then true else s.stepY
        stepZ := if s.activeAxis = .z then true else s.stepZ
        mCnt := s.params.phaseTicks
        mstate := .phigh })) ∧
    (s.keepPulsing = false ∨ s.pulseRem = 0 →
      step s = .next (s.latch s.input { s with
        keepPulsing := true
        mstate := if s.cmdPend = true then .resp else .cycleEnd }))

/-- 41_pulse_generator.md R137, R138: the two phases of a pulse; the last tick of the low phase counts the pair. -/
def Obligations.PulsePhasesCountDown : Prop :=
  ∀ s : State, s.Enabled →
    (s.mstate = .phigh → 1 < s.mCnt → step s = .next (s.latch s.input { s with mCnt := s.mCnt - 1 })) ∧
    (s.mstate = .phigh → s.mCnt ≤ 1 →
      step s = .next (s.latch s.input { s with
        stepX := if s.activeAxis = .x then false else s.stepX
        stepY := if s.activeAxis = .y then false else s.stepY
        stepZ := if s.activeAxis = .z then false else s.stepZ
        mCnt := s.params.phaseTicks
        mstate := .plow })) ∧
    (s.mstate = .plow → 1 < s.mCnt → step s = .next (s.latch s.input { s with mCnt := s.mCnt - 1 })) ∧
    (s.mstate = .plow → s.mCnt ≤ 1 →
      step s = .next (s.latch s.input { s with pulseRem := s.pulseRem - 1, mstate := .pcheck }))

/-- 41_pulse_generator.md R140, R144, R145 and 30_encoding.md R84: a burst that nothing aborts emits exactly `pulse_rem` pairs on
the active axis, each a rise and a fall, in `pulse_rem · (2P + 1)` ticks and one more to leave; the whole state it ends in. -/
def Obligations.BurstEmitsExactlyItsCount : Prop :=
  ∀ s : State,
    s.Inv → s.mstate = .pcheck → s.keepPulsing = true →
    s.NoReset (s.pulseRem.toNat * (2 * s.params.phaseTicks + 1) + 1) →
    s.LimitNoRise (s.pulseRem.toNat * (2 * s.params.phaseTicks + 1) + 1) →
    ∃ t, ticks (s.pulseRem.toNat * (2 * s.params.phaseTicks + 1) + 1) s = .next t ∧
      t = { s with
        pulseRem := 0
        mCnt := if s.pulseRem = 0 then s.mCnt else 1
        mstate := if s.cmdPend = true then .resp else .cycleEnd
        limMeta := t.limMeta
        limS := t.limS
        limPrev := t.limPrev
        inputs := s.inputs.drop (s.pulseRem.toNat * (2 * s.params.phaseTicks + 1) + 1)
        tick := s.tick + (s.pulseRem.toNat * (2 * s.params.phaseTicks + 1) + 1) } ∧
      trace (s.pulseRem.toNat * (2 * s.params.phaseTicks + 1) + 1) s =
        (List.replicate s.pulseRem.toNat [Obs.edge s.activeAxis true, Obs.edge s.activeAxis false]).flatten

/-- 41_pulse_generator.md R141, 70_reset_and_hazards.md R265, R281: `MOVE` from the first byte on the wire. From a quiescent state,
with the eight bytes offered one a tick and no limit event, the command is done `n · (2P + 1) + 18` ticks later: exactly `n`
pairs on its axis, `RESP.OK`, nothing else, and just the eight bytes read. -/
def Obligations.MoveTransactionHasItsNetEffect : Prop :=
  ∀ (s : State) (axis : Axis) (dir : Bool) (ign : BitVec 4) (count : Count), axis ≠ .reserved →
    s.keepPulsing = true →
    FrameOffered (count.toNat * (2 * s.params.phaseTicks + 1) + 18) s (encode (.move axis dir ign count)) →
    ∃ t, CommandDone (count.toNat * (2 * s.params.phaseTicks + 1) + 18) s t axis dir count.toNat ∧
      receivedBytes (count.toNat * (2 * s.params.phaseTicks + 1) + 18) s = encode (.move axis dir ign count)

/-- 41_pulse_generator.md R142, R144, 70_reset_and_hazards.md R275: `GOTOLIM` without a limit event ends by itself after
4294967295 pairs, whatever its count bytes, and is answered `RESP.OK`. -/
def Obligations.GotolimEndsAfterTheLargestCount : Prop :=
  ∀ (s : State) (axis : Axis) (dir : Bool) (ign : BitVec 4) (count : Count), axis ≠ .reserved →
    s.buf.frame = encode (.gotolim axis dir ign count) →
    CommandReady (4294967295 * (2 * s.params.phaseTicks + 1) + 8) s →
    ∃ t, CommandDone (4294967295 * (2 * s.params.phaseTicks + 1) + 8) s t axis dir 4294967295

/-- 30_encoding.md R97, 41_pulse_generator.md R143: a frame with a reserved go-to-limit byte has the net effect of `MOVE`. -/
def Obligations.ReservedFormsHaveTheNetEffectOfMove : Prop :=
  ∀ (s : State) (axis : Axis) (dir : Bool) (ign : BitVec 4) (g : Byte) (count : Count), axis ≠ .reserved →
    g ≠ 0x00 → g ≠ 0xFF → s.buf.frame = encode (reservedGoto axis dir ign g count) →
    CommandReady (count.toNat * (2 * s.params.phaseTicks + 1) + 8) s →
    ∃ t, CommandDone (count.toNat * (2 * s.params.phaseTicks + 1) + 8) s t axis dir count.toNat

/-- 30_encoding.md R98, 41_pulse_generator.md R132: a command of any form with the reserved axis drives no output, writes the
session, and is answered `RESP.OK` after seven ticks, `GOTOLIM` too. -/
def Obligations.ReservedAxisIsAnsweredAtOnce : Prop :=
  ∀ s : State, s.buf.ctrl.extractLsb' 6 2 = 3 → CommandReady 7 s →
    ∃ t, CommandDone 7 s t .reserved (s.buf.ctrl.getLsbD 5) 0

/-- 41_pulse_generator.md R136, 70_reset_and_hazards.md R273, R274: a command that finds `keep_pulsing = 0` starts no pulse: it
restores the flag, keeps `limit_hit` and goes to its response. -/
def Obligations.ClearedFlagSwallowsTheNextBurst : Prop :=
  ∀ s : State, s.NoReset 2 → s.mainEn = true → (s.limS = true → s.limPrev = true) →
    s.mstate = .exec → s.buf.ctrl.extractLsb' 6 2 ≠ 3 → s.cmdPend = true → s.keepPulsing = false →
    ∃ t, ticks 2 s = .next t ∧ t.mstate = .resp ∧ t.keepPulsing = true ∧ t.limitHit = s.limitHit ∧
      t.gotoLimit = (s.buf.gotoByte == 0xFF) ∧ t.stepX = s.stepX ∧ t.stepY = s.stepY ∧ t.stepZ = s.stepZ

/-! ### The response encoder -/

/-- 43_response_encoder.md R182: the status frame, by the two flags read at this tick. -/
def Obligations.StatusFrameByTheTwoFlags : Prop :=
  ∀ s : State, s.Enabled → s.mstate = .resp →
    step s = .next (s.latch s.input { s with
      txBuf := ⟨0x07, if s.limitHit = true ∧ s.gotoLimit = false then 0x0F else 0xF0, 0x00, 0x0A⟩
      txIdx := 0
      mstate := .tx })

/-- 43_response_encoder.md R181, R184: the ticks that build the boot notice and the query reply. -/
def Obligations.BootNoticeAndQueryReplyAreBuilt : Prop :=
  ∀ s : State, s.Enabled →
    (s.mstate = .boot →
      step s = .next (s.latch s.input { s with txBuf := ⟨0x07, 0xFF, 0x00, 0x0A⟩, txIdx := 0, mstate := .tx })) ∧
    (s.mstate = .qresp →
      step s = .next (s.latch s.input { s with
        txBuf := ⟨0x07, 0x00, if s.remoteUsed = true then 0x01 else 0x00, 0x0A⟩
        remoteUsed := false
        txIdx := 0
        mstate := .tx }))

/-- 43_response_encoder.md R186: `M_TX` offers the byte at `tx_idx`, waits until the link takes it, and ends the cycle after the
fourth. -/
def Obligations.TransmitSendsByteByByte : Prop :=
  ∀ s : State, s.Enabled → s.mstate = .tx →
    s.outputs.txValid = true ∧ s.outputs.txData = s.txBuf.bytes.getD s.txIdx.toNat 0 ∧
    (s.input.txReady = false → s.sent = none ∧ step s = .next (s.latch s.input s)) ∧
    (s.input.txReady = true → s.sent = some (s.txBuf.bytes.getD s.txIdx.toNat 0) ∧
      step s = .next (s.latch s.input
        (if s.txIdx = 3 then { s with mstate := .cycleEnd } else { s with txIdx := s.txIdx + 1 })))

/-- 70_reset_and_hazards.md R261, R281, 43_response_encoder.md R189: after a reset tick, with a ready link and no limit event, the
boot notice is sent and the first cycle begins six ticks later; no byte was read and no output moved, and the notice is the
whole trace. -/
def Obligations.BootNoticeComesFirst : Prop :=
  ∀ s : State, CalmFor 6 s.resetTick →
    ∃ t, ticks 6 s.resetTick = .next t ∧ t.mstate = .poll ∧ t.cmdPend = false ∧ t.queryPend = false ∧
      t.keepPulsing = true ∧ t.remoteUsed = false ∧ receivedBytes 6 s.resetTick = [] ∧
      trace 6 s.resetTick = [.sent 0x07, .sent 0xFF, .sent 0x00, .sent 0x0A]

/-- 43_response_encoder.md R188, 70_reset_and_hazards.md R281: `QUERY` from the first byte on the wire, with any other field, and
whatever `keep_pulsing` is (it may have been left at 0, 70_reset_and_hazards.md R274): 16 ticks later the reply with the old
`remote_used` is the whole trace, the flag is clear, and the session is as before. -/
def Obligations.QueryTransactionHasItsNetEffect : Prop :=
  ∀ (s : State) (axis : Axis) (dir : Bool) (ign : BitVec 4) (g : Byte) (count : Count),
    FrameOffered 16 s (encode (.query axis dir ign g count)) →
    ∃ t, ticks 16 s = .next t ∧ t.mstate = .poll ∧ t.remoteUsed = false ∧ t.queryPend = false ∧ t.cmdPend = false ∧
      t.joyPrev = false ∧ t.activeAxis = s.activeAxis ∧ t.activeDir = s.activeDir ∧ t.dirOut = s.dirOut ∧
      t.keepPulsing = s.keepPulsing ∧ receivedBytes 16 s = encode (.query axis dir ign g count) ∧
      trace 16 s = [.sent 0x07, .sent 0x00, .sent (if s.remoteUsed = true then 0x01 else 0x00), .sent 0x0A]

/-- 30_encoding.md R106, 43_response_encoder.md R187, 70_reset_and_hazards.md R261: after a reset, whatever the link, the host, the
joystick and the limit input do, the bytes sent are whole emitted frames and at most the beginning of one more, and they begin
with the boot notice. -/
def Obligations.TransmittedStreamIsWholeFrames : Prop :=
  ∀ (s t : State) (k : Nat), s.params.Valid → s.resetTick.NoReset k → ticks k s.resetTick = .next t →
    (∃ (frames : List (List Byte)) (part : List Byte),
      sentBytes (trace k s.resetTick) = frames.flatten ++ part ∧ (∀ f ∈ frames, f ∈ emittedFrames) ∧
      part.length < 4 ∧ ∃ f ∈ emittedFrames, part <+: f) ∧
    (sentBytes (trace k s.resetTick)).take 4 <+: [0x07, 0xFF, 0x00, 0x0A]

/-! ### The joystick controller -/

/-- 42_joystick_controller.md R164, R165, R166, R167: the thresholds are strict, left-right is on X with the fixed numbers and goes
first, up-down is on Y with the parameters. -/
def Obligations.JoystickDecisionByThresholds : Prop :=
  ∀ (q : Params) (lr ud : Sample),
    (901 ≤ lr.toNat → joystickMove q lr ud = some (.x, true)) ∧
    (lr.toNat ≤ 299 → joystickMove q lr ud = some (.x, false)) ∧
    (300 ≤ lr.toNat → lr.toNat ≤ 900 →
      joystickMove q lr ud =
        if (ud.toNat : Int) - q.joyUdBase > q.joyUdHi then some (.y, q.joyUdHiDir)
        else if (ud.toNat : Int) - q.joyUdBase < -q.joyUdLo then some (.y, q.joyUdLoDir)
        else none)

/-- 42_joystick_controller.md R162, R168, R169: `M_JOYREAD` decides on the two samples of its own tick; a move writes the session,
the direction output, a count of 1 and both remote flags, and no move writes nothing. -/
def Obligations.JoyreadIssuesTheMove : Prop :=
  ∀ s : State, s.Enabled → s.mstate = .joyread →
    (∀ (a : Axis) (d : Bool), joystickMove s.params s.input.adcLr s.input.adcUd = some (a, d) →
      step s = .next (s.latch s.input { s with
        activeAxis := a
        activeDir := d
        dirOut := d
        pulseRem := 1
        joyNow := true
        remoteUsed := true
        mstate := .pcheck })) ∧
    (joystickMove s.params s.input.adcLr s.input.adcUd = none →
      step s = .next (s.latch s.input { s with mstate := .cycleEnd }))

/-- 42_joystick_controller.md R170, R171: a micro-move that nothing aborts is one pair on its axis, is recorded in `remote_used`
and `joy_prev`, and transmits nothing; the cycle ends `2P + 4` ticks after the samples are read. -/
def Obligations.MicroMoveIsOnePair : Prop :=
  ∀ (s : State) (a : Axis) (d : Bool),
    s.Inv → s.mstate = .joyread → s.keepPulsing = true →
    s.NoReset (2 * s.params.phaseTicks + 4) → s.LimitNoRise (2 * s.params.phaseTicks + 4) →
    joystickMove s.params s.input.adcLr s.input.adcUd = some (a, d) →
    ∃ t, ticks (2 * s.params.phaseTicks + 4) s = .next t ∧ t.mstate = .poll ∧ t.dirOut = d ∧ t.activeAxis = a ∧
      t.activeDir = d ∧ t.remoteUsed = true ∧ t.joyPrev = true ∧ t.keepPulsing = true ∧ t.pulseRem = 0 ∧
      edges a true (trace (2 * s.params.phaseTicks + 4) s) = 1 ∧
      edges a false (trace (2 * s.params.phaseTicks + 4) s) = 1 ∧
      (∀ b v, b ≠ a → edges b v (trace (2 * s.params.phaseTicks + 4) s) = 0) ∧
      sentBytes (trace (2 * s.params.phaseTicks + 4) s) = [] ∧
      receivedBytes (2 * s.params.phaseTicks + 4) s = []

/-- 42_joystick_controller.md R160, R161: an enabled tick of `M_JOYWAIT` changes the counter alone, or at 0 goes to `M_JOYREAD`, so
also in a delay that the handler interrupts. Undisturbed, with nothing pending, the samples are read `JOY_DELAY_TICKS + 2` ticks after the dispatch,
or 2 ticks after it when the previous cycle moved; the wait changes the counter alone and shows nothing. -/
def Obligations.JoystickDelayChangesOnlyTheCounter : Prop :=
  (∀ s : State, s.Enabled → s.mstate = .joywait →
    (s.mCnt ≠ 0 → step s = .next (s.latch s.input { s with mCnt := s.mCnt - 1 })) ∧
    (s.mCnt = 0 → step s = .next (s.latch s.input { s with mstate := .joyread }))) ∧
  ∀ s : State, s.mstate = .dispatch → s.cmdPend = false → s.queryPend = false →
    s.NoReset ((if s.joyPrev = true then 0 else s.params.joyDelayTicks) + 2) →
    s.LimitNoRise ((if s.joyPrev = true then 0 else s.params.joyDelayTicks) + 2) →
    ∃ t, ticks ((if s.joyPrev = true then 0 else s.params.joyDelayTicks) + 2) s = .next t ∧
      t = { s with
        mCnt := 0
        mstate := .joyread
        limMeta := t.limMeta
        limS := t.limS
        limPrev := t.limPrev
        inputs := s.inputs.drop ((if s.joyPrev = true then 0 else s.params.joyDelayTicks) + 2)
        tick := s.tick + ((if s.joyPrev = true then 0 else s.params.joyDelayTicks) + 2) } ∧
      trace ((if s.joyPrev = true then 0 else s.params.joyDelayTicks) + 2) s = []

/-! ### The limit safety monitor -/

/-- 60_exceptions.md R225, R226: taking the interrupt loads the debounce counter and saves nothing; the debounce wait counts down
without condition. -/
def Obligations.InterruptEntryAndDebounce : Prop :=
  ∀ s : State, s.input.rst = false →
    (s.lstate = .idle → s.limPend = true →
      step s = .next (s.latch s.input { s with lCnt := s.params.debounceTicks, lstate := .debounce })) ∧
    (s.lstate = .debounce → s.lCnt ≠ 0 → step s = .next (s.latch s.input { s with lCnt := s.lCnt - 1 })) ∧
    (s.lstate = .debounce → s.lCnt = 0 → step s = .next (s.latch s.input { s with lstate := .check }))

/-- 60_exceptions.md R227, R228, R233: the re-check reverses from the commanded direction when the input is still asserted and a
command is executing, and otherwise returns with no effect; the finish sets `limit_hit`, clears `keep_pulsing` and returns,
restoring nothing. -/
def Obligations.HandlerChecksAndFinishes : Prop :=
  ∀ s : State, s.input.rst = false →
    (s.lstate = .check → s.limS = true → s.cmdPend = true →
      step s = .next (s.latch s.input { s with dirOut := !s.activeDir, lstate := .loop })) ∧
    (s.lstate = .check → s.limS = false ∨ s.cmdPend = false →
      step s = .next (s.latch s.input { s with lstate := .idle })) ∧
    (s.lstate = .finish →
      step s = .next (s.latch s.input { s with limitHit := true, keepPulsing := false, lstate := .idle }))

/-- 60_exceptions.md R229, R230, R231: the retreat tests the input before each pulse and drives the step output of `active_axis`. -/
def Obligations.RetreatPulsesWhileAsserted : Prop :=
  ∀ s : State, s.input.rst = false →
    (s.lstate = .loop → s.limS = true →
      step s = .next (s.latch s.input { s with
        stepX := if s.activeAxis = .x then true else s.stepX
        stepY := if s.activeAxis = .y then true else s.stepY
        stepZ := if s.activeAxis = .z then true else s.stepZ
        lCnt := s.params.phaseTicks
        lstate := .high })) ∧
    (s.lstate = .loop → s.limS = false → step s = .next (s.latch s.input { s with lstate := .finish })) ∧
    (s.lstate = .high → 1 < s.lCnt → step s = .next (s.latch s.input { s with lCnt := s.lCnt - 1 })) ∧
    (s.lstate = .high → s.lCnt ≤ 1 →
      step s = .next (s.latch s.input { s with
        stepX := if s.activeAxis = .x then false else s.stepX
        stepY := if s.activeAxis = .y then false else s.stepY
        stepZ := if s.activeAxis = .z then false else s.stepZ
        lCnt := s.params.phaseTicks
        lstate := .low })) ∧
    (s.lstate = .low → 1 < s.lCnt → step s = .next (s.latch s.input { s with lCnt := s.lCnt - 1 })) ∧
    (s.lstate = .low → s.lCnt ≤ 1 → step s = .next (s.latch s.input { s with lstate := .loop }))

/-- 60_exceptions.md R239, 70_reset_and_hazards.md R277: outside a command a limit edge holds MAIN for `DEBOUNCE_TICKS + 3` ticks and
does nothing else, whatever the input does meanwhile. -/
def Obligations.EdgeOutsideACommandOnlyDelays : Prop :=
  ∀ s : State, s.NoReset (s.params.debounceTicks + 3) → s.lstate = .idle → s.limPend = true → s.cmdPend = false →
    ∃ t, ticks (s.params.debounceTicks + 3) s = .next t ∧
      t = { s with
        lCnt := 0
        limMeta := t.limMeta
        limS := t.limS
        limPrev := t.limPrev
        limPend := t.limPend
        inputs := s.inputs.drop (s.params.debounceTicks + 3)
        tick := s.tick + (s.params.debounceTicks + 3) } ∧
      trace (s.params.debounceTicks + 3) s = [] ∧ receivedBytes (s.params.debounceTicks + 3) s = []

/-- 60_exceptions.md R229, 70_reset_and_hazards.md R278: while the input stays asserted a retreat never ends: however long it
lasts, MAIN is held where it was, and no byte is read or sent. -/
def Obligations.HeldLimitNeverReleasesMain : Prop :=
  ∀ (s : State) (k : Nat), s.NoReset k → s.LimitHeld k →
    s.lstate = .loop ∨ s.lstate = .high ∨ s.lstate = .low →
    ∃ t, ticks k s = .next t ∧ (t.lstate = .loop ∨ t.lstate = .high ∨ t.lstate = .low) ∧ SameMain s t ∧
      t.limitHit = s.limitHit ∧ t.keepPulsing = s.keepPulsing ∧ t.dirOut = s.dirOut ∧
      receivedBytes k s = [] ∧ sentBytes (trace k s) = []

/-- 60_exceptions.md R220, 70_reset_and_hazards.md R276: the handler is edge-triggered: an input that never goes from 0 to 1, even
one that rests at 1, never holds MAIN. -/
def Obligations.NoRisingEdgeNoInterrupt : Prop :=
  ∀ (s t : State) (k j : Nat), s.NoReset k → s.LimitNoRise k → j ≤ k → ticks j s = .next t →
    t.mainEn = true ∧ t.lstate = .idle ∧ t.lCnt = s.lCnt

/-- 60_exceptions.md R239, R228, 70_reset_and_hazards.md R271, R281: one whole activation. At the re-check, `D + 2` ticks after the
entry, it is decided: either nothing changes and the handler has ended one tick later, or there are `r` retreat pairs, the
direction is the opposite of the commanded one, `limit_hit` is 1 and `keep_pulsing` 0, and MAIN was held `D + 3 + r(2P + 1) + 2`
ticks. The active output falls `r` times and rises `r` times, one rise less if MAIN was held in a high phase. -/
def Obligations.ActivationHasOneOfTwoNetEffects : Prop :=
  ∀ (s t : State) (k : Nat), s.params.Valid → s.NoReset k → s.lstate = .idle → s.limPend = true →
    s.activeAxis ≠ .reserved → 0 < k → ticks k s = .next t → t.lstate = .idle →
    (∀ j < k, 0 < j → ∀ u, ticks j s = .next u → u.lstate ≠ .idle) →
    SameMain s t ∧ sentBytes (trace k s) = [] ∧ receivedBytes k s = [] ∧
    ∃ u, ticks (s.params.debounceTicks + 2) s = .next u ∧ u.lstate = .check ∧
      (u.limS = false ∨ s.cmdPend = false →
        k = s.params.debounceTicks + 3 ∧ SameShared s t ∧ trace k s = []) ∧
      (u.limS = true → s.cmdPend = true →
        t.dirOut = !s.activeDir ∧ t.limitHit = true ∧ t.keepPulsing = false ∧
        ∃ r : Nat, k = s.params.debounceTicks + 3 + r * (2 * s.params.phaseTicks + 1) + 2 ∧
          t.stepOf s.activeAxis = (if r = 0 then s.stepOf s.activeAxis else false) ∧
          edges s.activeAxis false (trace k s) = r ∧
          edges s.activeAxis true (trace k s) + (if s.stepOf s.activeAxis = true ∧ r ≠ 0 then 1 else 0) = r ∧
          ∀ b v, b ≠ s.activeAxis → edges b v (trace k s) = 0)

/-- 60_exceptions.md R237: the handler is not re-entered; an edge seen while it runs stays pending, and the handler starts again
before MAIN gets a tick. -/
def Obligations.EdgeDuringTheHandlerStartsItAgain : Prop :=
  (∀ s t : State, s.input.rst = false → s.lstate ≠ .idle → step s = .next t →
    (s.limPend = true ∨ s.limS = true ∧ s.limPrev = false → t.limPend = true)) ∧
  (∀ t : State, t.input.rst = false → t.lstate = .idle → t.limPend = true →
    t.mainEn = false ∧ ∃ u, step t = .next u ∧ u.lstate = .debounce ∧ u.lCnt = t.params.debounceTicks ∧ SameMain t u ∧
      SameShared t u)

/-- 60_exceptions.md R222: a rise first sampled at a tick lets MAIN run at that tick and the two after it, then MAIN is held with the
edge pending, and LSM leaves `L_IDLE` at the next tick. -/
def Obligations.LimitRiseHoldsMainThreeTicksLater : Prop :=
  ∀ s : State, s.Inv → s.NoReset 4 → s.mainEn = true → s.limMeta = false → s.limS = false →
    s.input.limitIn = true →
    ∃ t1 t2 t3 t4, step s = .next t1 ∧ step t1 = .next t2 ∧ step t2 = .next t3 ∧ step t3 = .next t4 ∧
      t1.mainEn = true ∧ t2.mainEn = true ∧ t3.mainEn = false ∧ t3.limPend = true ∧ t3.lstate = .idle ∧
      t4.lstate = .debounce ∧ t4.limPend = (t3.limS && !t3.limPrev)

/-- 60_exceptions.md R242, 41_pulse_generator.md R136, 44_control_loop.md R205: a command whose burst the handler aborted starts no
further pulse, and its response, the whole trace, reports the limit unless go-to-limit was asked for; then the flags are
clear. -/
def Obligations.LimitHitIsReportedOnce : Prop :=
  ∀ s : State, s.mstate = .pcheck → s.cmdPend = true → s.limitHit = true → s.keepPulsing = false → CalmFor 7 s →
    ∃ t, ticks 7 s = .next t ∧ t.mstate = .poll ∧ t.limitHit = false ∧ t.cmdPend = false ∧ t.gotoLimit = false ∧
      t.keepPulsing = true ∧ t.pulseRem = s.pulseRem ∧
      trace 7 s = [.sent 0x07, .sent (if s.gotoLimit = true then 0xF0 else 0x0F), .sent 0x00, .sent 0x0A]

/-! ### The invariant -/

/-- The invariant holds at reset: in the reset state of the model and after every reset tick (10_state.md R37). -/
def Obligations.InvariantHoldsAtReset : Prop :=
  State.reset.Inv ∧ ∀ s : State, s.params.Valid → s.resetTick.Inv

/-- Every step keeps the invariant, from every state that has it, with any port samples (40_command_decoder.md R114,
41_pulse_generator.md R139, 10_state.md R14, R21, R22, R24, R26, 30_encoding.md R106, 60_exceptions.md R228). -/
def Obligations.EveryStepKeepsTheInvariant : Prop :=
  ∀ s t : State, s.Inv → step s = .next t → t.Inv

/-- 44_control_loop.md R200: "No condition is fatal": from a state with the invariant no run of any length stops, and the counters
stay within `TIMER_W` bits (10_state.md R30; that they are natural numbers with this bound is the model's, log entry 7). -/
def Obligations.NoConditionIsFatal : Prop :=
  ∀ (s : State) (k : Nat), s.Inv →
    ∃ t, ticks k s = .next t ∧ t.mCnt < 2 ^ t.params.timerWidth ∧ t.lCnt < 2 ^ t.params.timerWidth

/-! ### What the machine does not tell -/

/-- 30_encoding.md R99: bits 4..1 of a control byte affect neither decoding nor execution and are not reported back: two states that
differ only there have the same trace for ever. -/
def Obligations.IgnoredControlBitsAreNeverSeen : Prop :=
  ∀ (s : State) (ctrl : Byte) (k : Nat), ctrl &&& 0xE1 = s.buf.ctrl &&& 0xE1 →
    trace k { s with buf := { s.buf with ctrl := ctrl } } = trace k s

/-- 30_encoding.md R100, 20_memory.md R66: once a query is dispatched nothing reads the rest of its frame: two states that differ in
any of the buffer have the same trace for ever. -/
def Obligations.QueryIgnoresTheRestOfItsFrame : Prop :=
  ∀ (s : State) (b : Payload) (k : Nat), s.mstate = .dispatch → s.cmdPend = false → s.queryPend = true →
    trace k { s with buf := b } = trace k s

/-- 20_memory.md R54, R58, 10_state.md R28: the output ports as functions of the state. -/
def Obligations.OutputPortsByTheState : Prop :=
  ∀ s : State,
    (s.outputs.rxReady = true ↔
      s.lstate = .idle ∧ s.limPend = false ∧
        ((s.mstate = .poll ∧ s.cmdPend = false ∧ s.queryPend = false) ∨ s.mstate = .collect)) ∧
    (s.outputs.txValid = true ↔ s.lstate = .idle ∧ s.limPend = false ∧ s.mstate = .tx) ∧
    s.outputs.txData = s.txBuf.bytes.getD s.txIdx.toNat 0 ∧
    s.outputs.stepX = s.stepX ∧ s.outputs.stepY = s.stepY ∧ s.outputs.stepZ = s.stepZ ∧ s.outputs.dirOut = s.dirOut ∧
    s.outputs.joyGnd = false ∧ s.outputs.joyVcc = true
end

