-- ==== Sys2Proof/Laws/Encoding.lean ====
section
/-! SUPPORT. The encoding, said once per piece: the reserved rows cover the reserved bytes, a frame's number byte by byte, and
mask and match on a frame's number as mask and match on its bytes (30_encoding.md R96, R97). -/

namespace Sys2Proof

/-! ### The reserved rows -/

/-- What holds of every reserved row holds of the row the decoder picks. -/
theorem reservedGoto_induction {P : Instr → Prop} {a : Axis} {d : Bool} {ign : BitVec 4} {g : Byte} {c : Count}
    (h01 : Byte.fits 0xC0 0x40 g = true → P (.rsvGoto01 a d ign g c))
    (h10 : Byte.fits 0xC0 0x80 g = true → P (.rsvGoto10 a d ign g c))
    (h001 : Byte.fits 0xE0 0x20 g = true → P (.rsvGoto001 a d ign g c))
    (h0001 : Byte.fits 0xF0 0x10 g = true → P (.rsvGoto0001 a d ign g c))
    (h00001 : Byte.fits 0xF8 0x08 g = true → P (.rsvGoto00001 a d ign g c))
    (h000001 : Byte.fits 0xFC 0x04 g = true → P (.rsvGoto000001 a d ign g c))
    (h0000001 : Byte.fits 0xFE 0x02 g = true → P (.rsvGoto0000001 a d ign g c))
    (h00000001 : Byte.fits 0xFF 0x01 g = true → P (.rsvGoto00000001 a d ign g c))
    (h110 : Byte.fits 0xE0 0xC0 g = true → P (.rsvGoto110 a d ign g c))
    (h1110 : Byte.fits 0xF0 0xE0 g = true → P (.rsvGoto1110 a d ign g c))
    (h11110 : Byte.fits 0xF8 0xF0 g = true → P (.rsvGoto11110 a d ign g c))
    (h111110 : Byte.fits 0xFC 0xF8 g = true → P (.rsvGoto111110 a d ign g c))
    (h1111110 : Byte.fits 0xFE 0xFC g = true → P (.rsvGoto1111110 a d ign g c))
    (h11111110 : P (.rsvGoto11111110 a d ign g c)) :
    P (reservedGoto a d ign g c) := by
  unfold reservedGoto
  refine iteInduction h01 fun _ => ?_
  refine iteInduction h10 fun _ => ?_
  refine iteInduction h001 fun _ => ?_
  refine iteInduction h0001 fun _ => ?_
  refine iteInduction h00001 fun _ => ?_
  refine iteInduction h000001 fun _ => ?_
  refine iteInduction h0000001 fun _ => ?_
  refine iteInduction h00000001 fun _ => ?_
  refine iteInduction h110 fun _ => ?_
  refine iteInduction h1110 fun _ => ?_
  refine iteInduction h11110 fun _ => ?_
  refine iteInduction h111110 fun _ => ?_
  refine iteInduction h1111110 fun _ => ?_
  exact h11111110

/-- A reserved byte fits one of the fourteen patterns (30_encoding.md R97). -/
theorem reserved_byte_fits (g : Byte) (hon : g ≠ gotoOn) (hoff : g ≠ gotoOff) :
    Byte.fits 0xC0 0x40 g = true ∨
    Byte.fits 0xC0 0x80 g = true ∨
    Byte.fits 0xE0 0x20 g = true ∨
    Byte.fits 0xF0 0x10 g = true ∨
    Byte.fits 0xF8 0x08 g = true ∨
    Byte.fits 0xFC 0x04 g = true ∨
    Byte.fits 0xFE 0x02 g = true ∨
    Byte.fits 0xFF 0x01 g = true ∨
    Byte.fits 0xE0 0xC0 g = true ∨
    Byte.fits 0xF0 0xE0 g = true ∨
    Byte.fits 0xF8 0xF0 g = true ∨
    Byte.fits 0xFC 0xF8 g = true ∨
    Byte.fits 0xFE 0xFC g = true ∨
    Byte.fits 0xFF 0xFE g = true := by
  revert g
  decide

/-! ### A frame's number -/

theorem frameNumber_lt : ∀ bs : List Byte, frameNumber bs < 256 ^ bs.length
  | [] => by simp [frameNumber]
  | b :: bs => by
    have ih := frameNumber_lt bs
    have hb : b.toNat < 256 := b.isLt
    have hm : b.toNat * 256 ^ bs.length ≤ 255 * 256 ^ bs.length := Nat.mul_le_mul_right _ (by omega)
    simp only [frameNumber, List.length_cons, Nat.pow_succ]
    omega

/-- Masking two numbers in the base 2^k masks them digit by digit. -/
theorem land_digit (k a m x y : Nat) (hx : x < 2 ^ k) (hy : y < 2 ^ k) :
    (2 ^ k * a + x) &&& (2 ^ k * m + y) = 2 ^ k * (a &&& m) + (x &&& y) := by
  have hxy : x &&& y < 2 ^ k := Nat.and_lt_two_pow x hy
  apply Nat.eq_of_testBit_eq
  intro i
  rw [Nat.testBit_and, Nat.testBit_two_pow_mul_add _ hx, Nat.testBit_two_pow_mul_add _ hy,
    Nat.testBit_two_pow_mul_add _ hxy]
  split <;> simp [Nat.testBit_and]

/-- Masking a frame's number masks its bytes. -/
theorem frameNumber_land : ∀ bs ms : List Byte, bs.length = ms.length →
    (frameNumber bs &&& frameNumber ms) = frameNumber (List.zipWith (· &&& ·) bs ms)
  | [], [], _ => rfl
  | b :: bs, m :: ms, h => by
    have hl : bs.length = ms.length := by simpa using h
    have hb := frameNumber_lt bs
    have hm := frameNumber_lt ms
    have ih := frameNumber_land bs ms hl
    have hz : (List.zipWith (· &&& ·) bs ms).length = bs.length := by simp [hl]
    have hp : (256 : Nat) ^ bs.length = 2 ^ (8 * bs.length) := by rw [Nat.pow_mul]
    simp only [frameNumber, List.zipWith_cons_cons, hz, BitVec.toNat_and]
    rw [← ih, ← hl, hp, Nat.mul_comm b.toNat, Nat.mul_comm m.toNat, Nat.mul_comm (b.toNat &&& m.toNat)]
    exact land_digit _ _ _ _ _ (hp ▸ hb) (hp ▸ hl ▸ hm)

/-- A frame of a given length is its number. -/
theorem frameNumber_inj : ∀ bs cs : List Byte, bs.length = cs.length → frameNumber bs = frameNumber cs → bs = cs
  | [], [], _, _ => rfl
  | b :: bs, c :: cs, h, he => by
    have hl : bs.length = cs.length := by simpa using h
    have hb := frameNumber_lt bs
    have hc := frameNumber_lt cs
    simp only [frameNumber, ← hl] at he
    rw [← hl] at hc
    have hpos : 0 < 256 ^ bs.length := Nat.pow_pos (by omega)
    have hd : b.toNat = c.toNat := by
      have hq : ∀ x y : Nat, y < 256 ^ bs.length → (x * 256 ^ bs.length + y) / 256 ^ bs.length = x := fun x y hy => by
        rw [Nat.add_comm, Nat.add_mul_div_right _ _ hpos, Nat.div_eq_of_lt hy, Nat.zero_add]
      rw [← hq b.toNat _ hb, he, hq c.toNat _ hc]
    rw [hd] at he
    rw [BitVec.eq_of_toNat_eq hd, frameNumber_inj bs cs hl (by omega)]

/-- A row whose mask and value are the numbers of byte lists is selected byte by byte. -/
theorem Row.selects_iff (n : Nat) (ms vs bs : List Byte) (hm : ms.length = n) (hv : vs.length = n) :
    (Row.mk n (frameNumber ms) (frameNumber vs)).selects bs = true ↔
      bs.length = n ∧ List.zipWith (· &&& ·) bs ms = vs := by
  simp only [Row.selects, Bool.and_eq_true, beq_iff_eq]
  constructor
  · rintro ⟨hl, h⟩
    rw [frameNumber_land bs ms (hl.trans hm.symm)] at h
    exact ⟨hl, frameNumber_inj _ _ (by simp [hl, hm, hv]) h⟩
  · rintro ⟨hl, h⟩
    exact ⟨hl, by rw [frameNumber_land bs ms (hl.trans hm.symm), h]⟩

end Sys2Proof
end

