-- ==== Sys2Proof/Laws/State.lean ====
section
/-! SUPPORT. One lemma per field per named update of the state, so that no proof unfolds a record update. Each says what the
field is after the update. -/

namespace Sys2Proof.Machine

variable (s t : State) (p : PortIn) (a : Axis) (d g v : Bool) (c : Count) (b b' : Byte)

/-! ### `dirWrite` -/

@[simp] theorem State.dirWrite_buf : (s.dirWrite v).buf = s.buf := rfl
@[simp] theorem State.dirWrite_rxIdx : (s.dirWrite v).rxIdx = s.rxIdx := rfl
@[simp] theorem State.dirWrite_pulseRem : (s.dirWrite v).pulseRem = s.pulseRem := rfl
@[simp] theorem State.dirWrite_txBuf : (s.dirWrite v).txBuf = s.txBuf := rfl
@[simp] theorem State.dirWrite_txIdx : (s.dirWrite v).txIdx = s.txIdx := rfl
@[simp] theorem State.dirWrite_activeAxis : (s.dirWrite v).activeAxis = s.activeAxis := rfl
@[simp] theorem State.dirWrite_activeDir : (s.dirWrite v).activeDir = s.activeDir := rfl
@[simp] theorem State.dirWrite_cmdPend : (s.dirWrite v).cmdPend = s.cmdPend := rfl
@[simp] theorem State.dirWrite_queryPend : (s.dirWrite v).queryPend = s.queryPend := rfl
@[simp] theorem State.dirWrite_gotoLimit : (s.dirWrite v).gotoLimit = s.gotoLimit := rfl
@[simp] theorem State.dirWrite_limitHit : (s.dirWrite v).limitHit = s.limitHit := rfl
@[simp] theorem State.dirWrite_keepPulsing : (s.dirWrite v).keepPulsing = s.keepPulsing := rfl
@[simp] theorem State.dirWrite_joyNow : (s.dirWrite v).joyNow = s.joyNow := rfl
@[simp] theorem State.dirWrite_joyPrev : (s.dirWrite v).joyPrev = s.joyPrev := rfl
@[simp] theorem State.dirWrite_remoteUsed : (s.dirWrite v).remoteUsed = s.remoteUsed := rfl
@[simp] theorem State.dirWrite_mstate : (s.dirWrite v).mstate = s.mstate := rfl
@[simp] theorem State.dirWrite_lstate : (s.dirWrite v).lstate = s.lstate := rfl
@[simp] theorem State.dirWrite_mCnt : (s.dirWrite v).mCnt = s.mCnt := rfl
@[simp] theorem State.dirWrite_lCnt : (s.dirWrite v).lCnt = s.lCnt := rfl
@[simp] theorem State.dirWrite_limMeta : (s.dirWrite v).limMeta = s.limMeta := rfl
@[simp] theorem State.dirWrite_limS : (s.dirWrite v).limS = s.limS := rfl
@[simp] theorem State.dirWrite_limPrev : (s.dirWrite v).limPrev = s.limPrev := rfl
@[simp] theorem State.dirWrite_limPend : (s.dirWrite v).limPend = s.limPend := rfl
@[simp] theorem State.dirWrite_stepX : (s.dirWrite v).stepX = s.stepX := rfl
@[simp] theorem State.dirWrite_stepY : (s.dirWrite v).stepY = s.stepY := rfl
@[simp] theorem State.dirWrite_stepZ : (s.dirWrite v).stepZ = s.stepZ := rfl
@[simp] theorem State.dirWrite_dirOut : (s.dirWrite v).dirOut = v := rfl
@[simp] theorem State.dirWrite_params : (s.dirWrite v).params = s.params := rfl
@[simp] theorem State.dirWrite_inputs : (s.dirWrite v).inputs = s.inputs := rfl
@[simp] theorem State.dirWrite_tick : (s.dirWrite v).tick = s.tick := rfl

/-! ### `stepWrite` -/

@[simp] theorem State.stepWrite_buf : (s.stepWrite a v).buf = s.buf := by cases a <;> rfl
@[simp] theorem State.stepWrite_rxIdx : (s.stepWrite a v).rxIdx = s.rxIdx := by cases a <;> rfl
@[simp] theorem State.stepWrite_pulseRem : (s.stepWrite a v).pulseRem = s.pulseRem := by cases a <;> rfl
@[simp] theorem State.stepWrite_txBuf : (s.stepWrite a v).txBuf = s.txBuf := by cases a <;> rfl
@[simp] theorem State.stepWrite_txIdx : (s.stepWrite a v).txIdx = s.txIdx := by cases a <;> rfl
@[simp] theorem State.stepWrite_activeAxis : (s.stepWrite a v).activeAxis = s.activeAxis := by cases a <;> rfl
@[simp] theorem State.stepWrite_activeDir : (s.stepWrite a v).activeDir = s.activeDir := by cases a <;> rfl
@[simp] theorem State.stepWrite_cmdPend : (s.stepWrite a v).cmdPend = s.cmdPend := by cases a <;> rfl
@[simp] theorem State.stepWrite_queryPend : (s.stepWrite a v).queryPend = s.queryPend := by cases a <;> rfl
@[simp] theorem State.stepWrite_gotoLimit : (s.stepWrite a v).gotoLimit = s.gotoLimit := by cases a <;> rfl
@[simp] theorem State.stepWrite_limitHit : (s.stepWrite a v).limitHit = s.limitHit := by cases a <;> rfl
@[simp] theorem State.stepWrite_keepPulsing : (s.stepWrite a v).keepPulsing = s.keepPulsing := by cases a <;> rfl
@[simp] theorem State.stepWrite_joyNow : (s.stepWrite a v).joyNow = s.joyNow := by cases a <;> rfl
@[simp] theorem State.stepWrite_joyPrev : (s.stepWrite a v).joyPrev = s.joyPrev := by cases a <;> rfl
@[simp] theorem State.stepWrite_remoteUsed : (s.stepWrite a v).remoteUsed = s.remoteUsed := by cases a <;> rfl
@[simp] theorem State.stepWrite_mstate : (s.stepWrite a v).mstate = s.mstate := by cases a <;> rfl
@[simp] theorem State.stepWrite_lstate : (s.stepWrite a v).lstate = s.lstate := by cases a <;> rfl
@[simp] theorem State.stepWrite_mCnt : (s.stepWrite a v).mCnt = s.mCnt := by cases a <;> rfl
@[simp] theorem State.stepWrite_lCnt : (s.stepWrite a v).lCnt = s.lCnt := by cases a <;> rfl
@[simp] theorem State.stepWrite_limMeta : (s.stepWrite a v).limMeta = s.limMeta := by cases a <;> rfl
@[simp] theorem State.stepWrite_limS : (s.stepWrite a v).limS = s.limS := by cases a <;> rfl
@[simp] theorem State.stepWrite_limPrev : (s.stepWrite a v).limPrev = s.limPrev := by cases a <;> rfl
@[simp] theorem State.stepWrite_limPend : (s.stepWrite a v).limPend = s.limPend := by cases a <;> rfl
@[simp] theorem State.stepWrite_stepX : (s.stepWrite a v).stepX = if a = .x then v else s.stepX := by cases a <;> rfl
@[simp] theorem State.stepWrite_stepY : (s.stepWrite a v).stepY = if a = .y then v else s.stepY := by cases a <;> rfl
@[simp] theorem State.stepWrite_stepZ : (s.stepWrite a v).stepZ = if a = .z then v else s.stepZ := by cases a <;> rfl
@[simp] theorem State.stepWrite_dirOut : (s.stepWrite a v).dirOut = s.dirOut := by cases a <;> rfl
@[simp] theorem State.stepWrite_params : (s.stepWrite a v).params = s.params := by cases a <;> rfl
@[simp] theorem State.stepWrite_inputs : (s.stepWrite a v).inputs = s.inputs := by cases a <;> rfl
@[simp] theorem State.stepWrite_tick : (s.stepWrite a v).tick = s.tick := by cases a <;> rfl

/-! ### `buildFrame` -/

@[simp] theorem State.buildFrame_buf : (s.buildFrame b b').buf = s.buf := rfl
@[simp] theorem State.buildFrame_rxIdx : (s.buildFrame b b').rxIdx = s.rxIdx := rfl
@[simp] theorem State.buildFrame_pulseRem : (s.buildFrame b b').pulseRem = s.pulseRem := rfl
@[simp] theorem State.buildFrame_txBuf : (s.buildFrame b b').txBuf = ⟨0x07, b, b', 0x0A⟩ := rfl
@[simp] theorem State.buildFrame_txIdx : (s.buildFrame b b').txIdx = 0 := rfl
@[simp] theorem State.buildFrame_activeAxis : (s.buildFrame b b').activeAxis = s.activeAxis := rfl
@[simp] theorem State.buildFrame_activeDir : (s.buildFrame b b').activeDir = s.activeDir := rfl
@[simp] theorem State.buildFrame_cmdPend : (s.buildFrame b b').cmdPend = s.cmdPend := rfl
@[simp] theorem State.buildFrame_queryPend : (s.buildFrame b b').queryPend = s.queryPend := rfl
@[simp] theorem State.buildFrame_gotoLimit : (s.buildFrame b b').gotoLimit = s.gotoLimit := rfl
@[simp] theorem State.buildFrame_limitHit : (s.buildFrame b b').limitHit = s.limitHit := rfl
@[simp] theorem State.buildFrame_keepPulsing : (s.buildFrame b b').keepPulsing = s.keepPulsing := rfl
@[simp] theorem State.buildFrame_joyNow : (s.buildFrame b b').joyNow = s.joyNow := rfl
@[simp] theorem State.buildFrame_joyPrev : (s.buildFrame b b').joyPrev = s.joyPrev := rfl
@[simp] theorem State.buildFrame_remoteUsed : (s.buildFrame b b').remoteUsed = s.remoteUsed := rfl
@[simp] theorem State.buildFrame_mstate : (s.buildFrame b b').mstate = .tx := rfl
@[simp] theorem State.buildFrame_lstate : (s.buildFrame b b').lstate = s.lstate := rfl
@[simp] theorem State.buildFrame_mCnt : (s.buildFrame b b').mCnt = s.mCnt := rfl
@[simp] theorem State.buildFrame_lCnt : (s.buildFrame b b').lCnt = s.lCnt := rfl
@[simp] theorem State.buildFrame_limMeta : (s.buildFrame b b').limMeta = s.limMeta := rfl
@[simp] theorem State.buildFrame_limS : (s.buildFrame b b').limS = s.limS := rfl
@[simp] theorem State.buildFrame_limPrev : (s.buildFrame b b').limPrev = s.limPrev := rfl
@[simp] theorem State.buildFrame_limPend : (s.buildFrame b b').limPend = s.limPend := rfl
@[simp] theorem State.buildFrame_stepX : (s.buildFrame b b').stepX = s.stepX := rfl
@[simp] theorem State.buildFrame_stepY : (s.buildFrame b b').stepY = s.stepY := rfl
@[simp] theorem State.buildFrame_stepZ : (s.buildFrame b b').stepZ = s.stepZ := rfl
@[simp] theorem State.buildFrame_dirOut : (s.buildFrame b b').dirOut = s.dirOut := rfl
@[simp] theorem State.buildFrame_params : (s.buildFrame b b').params = s.params := rfl
@[simp] theorem State.buildFrame_inputs : (s.buildFrame b b').inputs = s.inputs := rfl
@[simp] theorem State.buildFrame_tick : (s.buildFrame b b').tick = s.tick := rfl

/-! ### `replyUsed` -/

@[simp] theorem State.replyUsed_buf : (s.replyUsed b).buf = s.buf := rfl
@[simp] theorem State.replyUsed_rxIdx : (s.replyUsed b).rxIdx = s.rxIdx := rfl
@[simp] theorem State.replyUsed_pulseRem : (s.replyUsed b).pulseRem = s.pulseRem := rfl
@[simp] theorem State.replyUsed_txBuf : (s.replyUsed b).txBuf = ⟨0x07, 0x00, b, 0x0A⟩ := rfl
@[simp] theorem State.replyUsed_txIdx : (s.replyUsed b).txIdx = 0 := rfl
@[simp] theorem State.replyUsed_activeAxis : (s.replyUsed b).activeAxis = s.activeAxis := rfl
@[simp] theorem State.replyUsed_activeDir : (s.replyUsed b).activeDir = s.activeDir := rfl
@[simp] theorem State.replyUsed_cmdPend : (s.replyUsed b).cmdPend = s.cmdPend := rfl
@[simp] theorem State.replyUsed_queryPend : (s.replyUsed b).queryPend = s.queryPend := rfl
@[simp] theorem State.replyUsed_gotoLimit : (s.replyUsed b).gotoLimit = s.gotoLimit := rfl
@[simp] theorem State.replyUsed_limitHit : (s.replyUsed b).limitHit = s.limitHit := rfl
@[simp] theorem State.replyUsed_keepPulsing : (s.replyUsed b).keepPulsing = s.keepPulsing := rfl
@[simp] theorem State.replyUsed_joyNow : (s.replyUsed b).joyNow = s.joyNow := rfl
@[simp] theorem State.replyUsed_joyPrev : (s.replyUsed b).joyPrev = s.joyPrev := rfl
@[simp] theorem State.replyUsed_remoteUsed : (s.replyUsed b).remoteUsed = false := rfl
@[simp] theorem State.replyUsed_mstate : (s.replyUsed b).mstate = .tx := rfl
@[simp] theorem State.replyUsed_lstate : (s.replyUsed b).lstate = s.lstate := rfl
@[simp] theorem State.replyUsed_mCnt : (s.replyUsed b).mCnt = s.mCnt := rfl
@[simp] theorem State.replyUsed_lCnt : (s.replyUsed b).lCnt = s.lCnt := rfl
@[simp] theorem State.replyUsed_limMeta : (s.replyUsed b).limMeta = s.limMeta := rfl
@[simp] theorem State.replyUsed_limS : (s.replyUsed b).limS = s.limS := rfl
@[simp] theorem State.replyUsed_limPrev : (s.replyUsed b).limPrev = s.limPrev := rfl
@[simp] theorem State.replyUsed_limPend : (s.replyUsed b).limPend = s.limPend := rfl
@[simp] theorem State.replyUsed_stepX : (s.replyUsed b).stepX = s.stepX := rfl
@[simp] theorem State.replyUsed_stepY : (s.replyUsed b).stepY = s.stepY := rfl
@[simp] theorem State.replyUsed_stepZ : (s.replyUsed b).stepZ = s.stepZ := rfl
@[simp] theorem State.replyUsed_dirOut : (s.replyUsed b).dirOut = s.dirOut := rfl
@[simp] theorem State.replyUsed_params : (s.replyUsed b).params = s.params := rfl
@[simp] theorem State.replyUsed_inputs : (s.replyUsed b).inputs = s.inputs := rfl
@[simp] theorem State.replyUsed_tick : (s.replyUsed b).tick = s.tick := rfl

/-! ### `startCommand` -/

@[simp] theorem State.startCommand_buf : (s.startCommand a d g c).buf = s.buf := rfl
@[simp] theorem State.startCommand_rxIdx : (s.startCommand a d g c).rxIdx = s.rxIdx := rfl
@[simp] theorem State.startCommand_pulseRem : (s.startCommand a d g c).pulseRem = requestedPulses g c := rfl
@[simp] theorem State.startCommand_txBuf : (s.startCommand a d g c).txBuf = s.txBuf := rfl
@[simp] theorem State.startCommand_txIdx : (s.startCommand a d g c).txIdx = s.txIdx := rfl
@[simp] theorem State.startCommand_activeAxis : (s.startCommand a d g c).activeAxis = a := rfl
@[simp] theorem State.startCommand_activeDir : (s.startCommand a d g c).activeDir = d := rfl
@[simp] theorem State.startCommand_cmdPend : (s.startCommand a d g c).cmdPend = s.cmdPend := rfl
@[simp] theorem State.startCommand_queryPend : (s.startCommand a d g c).queryPend = s.queryPend := rfl
@[simp] theorem State.startCommand_gotoLimit : (s.startCommand a d g c).gotoLimit = g := rfl
@[simp] theorem State.startCommand_limitHit : (s.startCommand a d g c).limitHit = s.limitHit := rfl
@[simp] theorem State.startCommand_keepPulsing : (s.startCommand a d g c).keepPulsing = s.keepPulsing := rfl
@[simp] theorem State.startCommand_joyNow : (s.startCommand a d g c).joyNow = s.joyNow := rfl
@[simp] theorem State.startCommand_joyPrev : (s.startCommand a d g c).joyPrev = s.joyPrev := rfl
@[simp] theorem State.startCommand_remoteUsed : (s.startCommand a d g c).remoteUsed = s.remoteUsed := rfl
@[simp] theorem State.startCommand_mstate : (s.startCommand a d g c).mstate = if a = .reserved then .resp else .pcheck := rfl
@[simp] theorem State.startCommand_lstate : (s.startCommand a d g c).lstate = s.lstate := rfl
@[simp] theorem State.startCommand_mCnt : (s.startCommand a d g c).mCnt = s.mCnt := rfl
@[simp] theorem State.startCommand_lCnt : (s.startCommand a d g c).lCnt = s.lCnt := rfl
@[simp] theorem State.startCommand_limMeta : (s.startCommand a d g c).limMeta = s.limMeta := rfl
@[simp] theorem State.startCommand_limS : (s.startCommand a d g c).limS = s.limS := rfl
@[simp] theorem State.startCommand_limPrev : (s.startCommand a d g c).limPrev = s.limPrev := rfl
@[simp] theorem State.startCommand_limPend : (s.startCommand a d g c).limPend = s.limPend := rfl
@[simp] theorem State.startCommand_stepX : (s.startCommand a d g c).stepX = s.stepX := rfl
@[simp] theorem State.startCommand_stepY : (s.startCommand a d g c).stepY = s.stepY := rfl
@[simp] theorem State.startCommand_stepZ : (s.startCommand a d g c).stepZ = s.stepZ := rfl
@[simp] theorem State.startCommand_dirOut : (s.startCommand a d g c).dirOut = d := rfl
@[simp] theorem State.startCommand_params : (s.startCommand a d g c).params = s.params := rfl
@[simp] theorem State.startCommand_inputs : (s.startCommand a d g c).inputs = s.inputs := rfl
@[simp] theorem State.startCommand_tick : (s.startCommand a d g c).tick = s.tick := rfl

/-! ### `takeInterrupt` -/

@[simp] theorem State.takeInterrupt_buf : (s.takeInterrupt).buf = s.buf := rfl
@[simp] theorem State.takeInterrupt_rxIdx : (s.takeInterrupt).rxIdx = s.rxIdx := rfl
@[simp] theorem State.takeInterrupt_pulseRem : (s.takeInterrupt).pulseRem = s.pulseRem := rfl
@[simp] theorem State.takeInterrupt_txBuf : (s.takeInterrupt).txBuf = s.txBuf := rfl
@[simp] theorem State.takeInterrupt_txIdx : (s.takeInterrupt).txIdx = s.txIdx := rfl
@[simp] theorem State.takeInterrupt_activeAxis : (s.takeInterrupt).activeAxis = s.activeAxis := rfl
@[simp] theorem State.takeInterrupt_activeDir : (s.takeInterrupt).activeDir = s.activeDir := rfl
@[simp] theorem State.takeInterrupt_cmdPend : (s.takeInterrupt).cmdPend = s.cmdPend := rfl
@[simp] theorem State.takeInterrupt_queryPend : (s.takeInterrupt).queryPend = s.queryPend := rfl
@[simp] theorem State.takeInterrupt_gotoLimit : (s.takeInterrupt).gotoLimit = s.gotoLimit := rfl
@[simp] theorem State.takeInterrupt_limitHit : (s.takeInterrupt).limitHit = s.limitHit := rfl
@[simp] theorem State.takeInterrupt_keepPulsing : (s.takeInterrupt).keepPulsing = s.keepPulsing := rfl
@[simp] theorem State.takeInterrupt_joyNow : (s.takeInterrupt).joyNow = s.joyNow := rfl
@[simp] theorem State.takeInterrupt_joyPrev : (s.takeInterrupt).joyPrev = s.joyPrev := rfl
@[simp] theorem State.takeInterrupt_remoteUsed : (s.takeInterrupt).remoteUsed = s.remoteUsed := rfl
@[simp] theorem State.takeInterrupt_mstate : (s.takeInterrupt).mstate = s.mstate := rfl
@[simp] theorem State.takeInterrupt_lstate : (s.takeInterrupt).lstate = .debounce := rfl
@[simp] theorem State.takeInterrupt_mCnt : (s.takeInterrupt).mCnt = s.mCnt := rfl
@[simp] theorem State.takeInterrupt_lCnt : (s.takeInterrupt).lCnt = s.params.debounceTicks := rfl
@[simp] theorem State.takeInterrupt_limMeta : (s.takeInterrupt).limMeta = s.limMeta := rfl
@[simp] theorem State.takeInterrupt_limS : (s.takeInterrupt).limS = s.limS := rfl
@[simp] theorem State.takeInterrupt_limPrev : (s.takeInterrupt).limPrev = s.limPrev := rfl
@[simp] theorem State.takeInterrupt_limPend : (s.takeInterrupt).limPend = s.limPend := rfl
@[simp] theorem State.takeInterrupt_stepX : (s.takeInterrupt).stepX = s.stepX := rfl
@[simp] theorem State.takeInterrupt_stepY : (s.takeInterrupt).stepY = s.stepY := rfl
@[simp] theorem State.takeInterrupt_stepZ : (s.takeInterrupt).stepZ = s.stepZ := rfl
@[simp] theorem State.takeInterrupt_dirOut : (s.takeInterrupt).dirOut = s.dirOut := rfl
@[simp] theorem State.takeInterrupt_params : (s.takeInterrupt).params = s.params := rfl
@[simp] theorem State.takeInterrupt_inputs : (s.takeInterrupt).inputs = s.inputs := rfl
@[simp] theorem State.takeInterrupt_tick : (s.takeInterrupt).tick = s.tick := rfl

/-! ### `leaveInterrupt` -/

@[simp] theorem State.leaveInterrupt_buf : (s.leaveInterrupt).buf = s.buf := rfl
@[simp] theorem State.leaveInterrupt_rxIdx : (s.leaveInterrupt).rxIdx = s.rxIdx := rfl
@[simp] theorem State.leaveInterrupt_pulseRem : (s.leaveInterrupt).pulseRem = s.pulseRem := rfl
@[simp] theorem State.leaveInterrupt_txBuf : (s.leaveInterrupt).txBuf = s.txBuf := rfl
@[simp] theorem State.leaveInterrupt_txIdx : (s.leaveInterrupt).txIdx = s.txIdx := rfl
@[simp] theorem State.leaveInterrupt_activeAxis : (s.leaveInterrupt).activeAxis = s.activeAxis := rfl
@[simp] theorem State.leaveInterrupt_activeDir : (s.leaveInterrupt).activeDir = s.activeDir := rfl
@[simp] theorem State.leaveInterrupt_cmdPend : (s.leaveInterrupt).cmdPend = s.cmdPend := rfl
@[simp] theorem State.leaveInterrupt_queryPend : (s.leaveInterrupt).queryPend = s.queryPend := rfl
@[simp] theorem State.leaveInterrupt_gotoLimit : (s.leaveInterrupt).gotoLimit = s.gotoLimit := rfl
@[simp] theorem State.leaveInterrupt_limitHit : (s.leaveInterrupt).limitHit = s.limitHit := rfl
@[simp] theorem State.leaveInterrupt_keepPulsing : (s.leaveInterrupt).keepPulsing = s.keepPulsing := rfl
@[simp] theorem State.leaveInterrupt_joyNow : (s.leaveInterrupt).joyNow = s.joyNow := rfl
@[simp] theorem State.leaveInterrupt_joyPrev : (s.leaveInterrupt).joyPrev = s.joyPrev := rfl
@[simp] theorem State.leaveInterrupt_remoteUsed : (s.leaveInterrupt).remoteUsed = s.remoteUsed := rfl
@[simp] theorem State.leaveInterrupt_mstate : (s.leaveInterrupt).mstate = s.mstate := rfl
@[simp] theorem State.leaveInterrupt_lstate : (s.leaveInterrupt).lstate = .idle := rfl
@[simp] theorem State.leaveInterrupt_mCnt : (s.leaveInterrupt).mCnt = s.mCnt := rfl
@[simp] theorem State.leaveInterrupt_lCnt : (s.leaveInterrupt).lCnt = s.lCnt := rfl
@[simp] theorem State.leaveInterrupt_limMeta : (s.leaveInterrupt).limMeta = s.limMeta := rfl
@[simp] theorem State.leaveInterrupt_limS : (s.leaveInterrupt).limS = s.limS := rfl
@[simp] theorem State.leaveInterrupt_limPrev : (s.leaveInterrupt).limPrev = s.limPrev := rfl
@[simp] theorem State.leaveInterrupt_limPend : (s.leaveInterrupt).limPend = s.limPend := rfl
@[simp] theorem State.leaveInterrupt_stepX : (s.leaveInterrupt).stepX = s.stepX := rfl
@[simp] theorem State.leaveInterrupt_stepY : (s.leaveInterrupt).stepY = s.stepY := rfl
@[simp] theorem State.leaveInterrupt_stepZ : (s.leaveInterrupt).stepZ = s.stepZ := rfl
@[simp] theorem State.leaveInterrupt_dirOut : (s.leaveInterrupt).dirOut = s.dirOut := rfl
@[simp] theorem State.leaveInterrupt_params : (s.leaveInterrupt).params = s.params := rfl
@[simp] theorem State.leaveInterrupt_inputs : (s.leaveInterrupt).inputs = s.inputs := rfl
@[simp] theorem State.leaveInterrupt_tick : (s.leaveInterrupt).tick = s.tick := rfl

/-! ### `restoreKeepPulsing` -/

@[simp] theorem State.restoreKeepPulsing_buf : (s.restoreKeepPulsing).buf = s.buf := rfl
@[simp] theorem State.restoreKeepPulsing_rxIdx : (s.restoreKeepPulsing).rxIdx = s.rxIdx := rfl
@[simp] theorem State.restoreKeepPulsing_pulseRem : (s.restoreKeepPulsing).pulseRem = s.pulseRem := rfl
@[simp] theorem State.restoreKeepPulsing_txBuf : (s.restoreKeepPulsing).txBuf = s.txBuf := rfl
@[simp] theorem State.restoreKeepPulsing_txIdx : (s.restoreKeepPulsing).txIdx = s.txIdx := rfl
@[simp] theorem State.restoreKeepPulsing_activeAxis : (s.restoreKeepPulsing).activeAxis = s.activeAxis := rfl
@[simp] theorem State.restoreKeepPulsing_activeDir : (s.restoreKeepPulsing).activeDir = s.activeDir := rfl
@[simp] theorem State.restoreKeepPulsing_cmdPend : (s.restoreKeepPulsing).cmdPend = s.cmdPend := rfl
@[simp] theorem State.restoreKeepPulsing_queryPend : (s.restoreKeepPulsing).queryPend = s.queryPend := rfl
@[simp] theorem State.restoreKeepPulsing_gotoLimit : (s.restoreKeepPulsing).gotoLimit = s.gotoLimit := rfl
@[simp] theorem State.restoreKeepPulsing_limitHit : (s.restoreKeepPulsing).limitHit = s.limitHit := rfl
@[simp] theorem State.restoreKeepPulsing_keepPulsing : (s.restoreKeepPulsing).keepPulsing = true := rfl
@[simp] theorem State.restoreKeepPulsing_joyNow : (s.restoreKeepPulsing).joyNow = s.joyNow := rfl
@[simp] theorem State.restoreKeepPulsing_joyPrev : (s.restoreKeepPulsing).joyPrev = s.joyPrev := rfl
@[simp] theorem State.restoreKeepPulsing_remoteUsed : (s.restoreKeepPulsing).remoteUsed = s.remoteUsed := rfl
@[simp] theorem State.restoreKeepPulsing_mstate : (s.restoreKeepPulsing).mstate = s.mstate := rfl
@[simp] theorem State.restoreKeepPulsing_lstate : (s.restoreKeepPulsing).lstate = s.lstate := rfl
@[simp] theorem State.restoreKeepPulsing_mCnt : (s.restoreKeepPulsing).mCnt = s.mCnt := rfl
@[simp] theorem State.restoreKeepPulsing_lCnt : (s.restoreKeepPulsing).lCnt = s.lCnt := rfl
@[simp] theorem State.restoreKeepPulsing_limMeta : (s.restoreKeepPulsing).limMeta = s.limMeta := rfl
@[simp] theorem State.restoreKeepPulsing_limS : (s.restoreKeepPulsing).limS = s.limS := rfl
@[simp] theorem State.restoreKeepPulsing_limPrev : (s.restoreKeepPulsing).limPrev = s.limPrev := rfl
@[simp] theorem State.restoreKeepPulsing_limPend : (s.restoreKeepPulsing).limPend = s.limPend := rfl
@[simp] theorem State.restoreKeepPulsing_stepX : (s.restoreKeepPulsing).stepX = s.stepX := rfl
@[simp] theorem State.restoreKeepPulsing_stepY : (s.restoreKeepPulsing).stepY = s.stepY := rfl
@[simp] theorem State.restoreKeepPulsing_stepZ : (s.restoreKeepPulsing).stepZ = s.stepZ := rfl
@[simp] theorem State.restoreKeepPulsing_dirOut : (s.restoreKeepPulsing).dirOut = s.dirOut := rfl
@[simp] theorem State.restoreKeepPulsing_params : (s.restoreKeepPulsing).params = s.params := rfl
@[simp] theorem State.restoreKeepPulsing_inputs : (s.restoreKeepPulsing).inputs = s.inputs := rfl
@[simp] theorem State.restoreKeepPulsing_tick : (s.restoreKeepPulsing).tick = s.tick := rfl

/-! ### `markLimitHit` -/

@[simp] theorem State.markLimitHit_buf : (s.markLimitHit).buf = s.buf := rfl
@[simp] theorem State.markLimitHit_rxIdx : (s.markLimitHit).rxIdx = s.rxIdx := rfl
@[simp] theorem State.markLimitHit_pulseRem : (s.markLimitHit).pulseRem = s.pulseRem := rfl
@[simp] theorem State.markLimitHit_txBuf : (s.markLimitHit).txBuf = s.txBuf := rfl
@[simp] theorem State.markLimitHit_txIdx : (s.markLimitHit).txIdx = s.txIdx := rfl
@[simp] theorem State.markLimitHit_activeAxis : (s.markLimitHit).activeAxis = s.activeAxis := rfl
@[simp] theorem State.markLimitHit_activeDir : (s.markLimitHit).activeDir = s.activeDir := rfl
@[simp] theorem State.markLimitHit_cmdPend : (s.markLimitHit).cmdPend = s.cmdPend := rfl
@[simp] theorem State.markLimitHit_queryPend : (s.markLimitHit).queryPend = s.queryPend := rfl
@[simp] theorem State.markLimitHit_gotoLimit : (s.markLimitHit).gotoLimit = s.gotoLimit := rfl
@[simp] theorem State.markLimitHit_limitHit : (s.markLimitHit).limitHit = true := rfl
@[simp] theorem State.markLimitHit_keepPulsing : (s.markLimitHit).keepPulsing = false := rfl
@[simp] theorem State.markLimitHit_joyNow : (s.markLimitHit).joyNow = s.joyNow := rfl
@[simp] theorem State.markLimitHit_joyPrev : (s.markLimitHit).joyPrev = s.joyPrev := rfl
@[simp] theorem State.markLimitHit_remoteUsed : (s.markLimitHit).remoteUsed = s.remoteUsed := rfl
@[simp] theorem State.markLimitHit_mstate : (s.markLimitHit).mstate = s.mstate := rfl
@[simp] theorem State.markLimitHit_lstate : (s.markLimitHit).lstate = s.lstate := rfl
@[simp] theorem State.markLimitHit_mCnt : (s.markLimitHit).mCnt = s.mCnt := rfl
@[simp] theorem State.markLimitHit_lCnt : (s.markLimitHit).lCnt = s.lCnt := rfl
@[simp] theorem State.markLimitHit_limMeta : (s.markLimitHit).limMeta = s.limMeta := rfl
@[simp] theorem State.markLimitHit_limS : (s.markLimitHit).limS = s.limS := rfl
@[simp] theorem State.markLimitHit_limPrev : (s.markLimitHit).limPrev = s.limPrev := rfl
@[simp] theorem State.markLimitHit_limPend : (s.markLimitHit).limPend = s.limPend := rfl
@[simp] theorem State.markLimitHit_stepX : (s.markLimitHit).stepX = s.stepX := rfl
@[simp] theorem State.markLimitHit_stepY : (s.markLimitHit).stepY = s.stepY := rfl
@[simp] theorem State.markLimitHit_stepZ : (s.markLimitHit).stepZ = s.stepZ := rfl
@[simp] theorem State.markLimitHit_dirOut : (s.markLimitHit).dirOut = s.dirOut := rfl
@[simp] theorem State.markLimitHit_params : (s.markLimitHit).params = s.params := rfl
@[simp] theorem State.markLimitHit_inputs : (s.markLimitHit).inputs = s.inputs := rfl
@[simp] theorem State.markLimitHit_tick : (s.markLimitHit).tick = s.tick := rfl

/-! ### `clearCycleFlags` -/

@[simp] theorem State.clearCycleFlags_buf : (s.clearCycleFlags).buf = s.buf := rfl
@[simp] theorem State.clearCycleFlags_rxIdx : (s.clearCycleFlags).rxIdx = s.rxIdx := rfl
@[simp] theorem State.clearCycleFlags_pulseRem : (s.clearCycleFlags).pulseRem = s.pulseRem := rfl
@[simp] theorem State.clearCycleFlags_txBuf : (s.clearCycleFlags).txBuf = s.txBuf := rfl
@[simp] theorem State.clearCycleFlags_txIdx : (s.clearCycleFlags).txIdx = s.txIdx := rfl
@[simp] theorem State.clearCycleFlags_activeAxis : (s.clearCycleFlags).activeAxis = s.activeAxis := rfl
@[simp] theorem State.clearCycleFlags_activeDir : (s.clearCycleFlags).activeDir = s.activeDir := rfl
@[simp] theorem State.clearCycleFlags_cmdPend : (s.clearCycleFlags).cmdPend = false := rfl
@[simp] theorem State.clearCycleFlags_queryPend : (s.clearCycleFlags).queryPend = false := rfl
@[simp] theorem State.clearCycleFlags_gotoLimit : (s.clearCycleFlags).gotoLimit = false := rfl
@[simp] theorem State.clearCycleFlags_limitHit : (s.clearCycleFlags).limitHit = false := rfl
@[simp] theorem State.clearCycleFlags_keepPulsing : (s.clearCycleFlags).keepPulsing = s.keepPulsing := rfl
@[simp] theorem State.clearCycleFlags_joyNow : (s.clearCycleFlags).joyNow = false := rfl
@[simp] theorem State.clearCycleFlags_joyPrev : (s.clearCycleFlags).joyPrev = s.joyNow := rfl
@[simp] theorem State.clearCycleFlags_remoteUsed : (s.clearCycleFlags).remoteUsed = s.remoteUsed := rfl
@[simp] theorem State.clearCycleFlags_mstate : (s.clearCycleFlags).mstate = s.mstate := rfl
@[simp] theorem State.clearCycleFlags_lstate : (s.clearCycleFlags).lstate = s.lstate := rfl
@[simp] theorem State.clearCycleFlags_mCnt : (s.clearCycleFlags).mCnt = s.mCnt := rfl
@[simp] theorem State.clearCycleFlags_lCnt : (s.clearCycleFlags).lCnt = s.lCnt := rfl
@[simp] theorem State.clearCycleFlags_limMeta : (s.clearCycleFlags).limMeta = s.limMeta := rfl
@[simp] theorem State.clearCycleFlags_limS : (s.clearCycleFlags).limS = s.limS := rfl
@[simp] theorem State.clearCycleFlags_limPrev : (s.clearCycleFlags).limPrev = s.limPrev := rfl
@[simp] theorem State.clearCycleFlags_limPend : (s.clearCycleFlags).limPend = s.limPend := rfl
@[simp] theorem State.clearCycleFlags_stepX : (s.clearCycleFlags).stepX = s.stepX := rfl
@[simp] theorem State.clearCycleFlags_stepY : (s.clearCycleFlags).stepY = s.stepY := rfl
@[simp] theorem State.clearCycleFlags_stepZ : (s.clearCycleFlags).stepZ = s.stepZ := rfl
@[simp] theorem State.clearCycleFlags_dirOut : (s.clearCycleFlags).dirOut = s.dirOut := rfl
@[simp] theorem State.clearCycleFlags_params : (s.clearCycleFlags).params = s.params := rfl
@[simp] theorem State.clearCycleFlags_inputs : (s.clearCycleFlags).inputs = s.inputs := rfl
@[simp] theorem State.clearCycleFlags_tick : (s.clearCycleFlags).tick = s.tick := rfl

/-! ### `setPending` -/

@[simp] theorem State.setPending_buf : (s.setPending).buf = s.buf := by
  unfold State.setPending; split <;> [split; skip] <;> rfl
@[simp] theorem State.setPending_rxIdx : (s.setPending).rxIdx = s.rxIdx := by
  unfold State.setPending; split <;> [split; skip] <;> rfl
@[simp] theorem State.setPending_pulseRem : (s.setPending).pulseRem = s.pulseRem := by
  unfold State.setPending; split <;> [split; skip] <;> rfl
@[simp] theorem State.setPending_txBuf : (s.setPending).txBuf = s.txBuf := by
  unfold State.setPending; split <;> [split; skip] <;> rfl
@[simp] theorem State.setPending_txIdx : (s.setPending).txIdx = s.txIdx := by
  unfold State.setPending; split <;> [split; skip] <;> rfl
@[simp] theorem State.setPending_activeAxis : (s.setPending).activeAxis = s.activeAxis := by
  unfold State.setPending; split <;> [split; skip] <;> rfl
@[simp] theorem State.setPending_activeDir : (s.setPending).activeDir = s.activeDir := by
  unfold State.setPending; split <;> [split; skip] <;> rfl
@[simp] theorem State.setPending_cmdPend : (s.setPending).cmdPend = (s.cmdPend || (decide (s.buf.last = endByte) && !ctrlQuery s.buf.ctrl)) := by
  unfold State.setPending; split <;> [split; skip] <;> simp_all
@[simp] theorem State.setPending_queryPend : (s.setPending).queryPend = (s.queryPend || (decide (s.buf.last = endByte) && ctrlQuery s.buf.ctrl)) := by
  unfold State.setPending; split <;> [split; skip] <;> simp_all
@[simp] theorem State.setPending_gotoLimit : (s.setPending).gotoLimit = s.gotoLimit := by
  unfold State.setPending; split <;> [split; skip] <;> rfl
@[simp] theorem State.setPending_limitHit : (s.setPending).limitHit = s.limitHit := by
  unfold State.setPending; split <;> [split; skip] <;> rfl
@[simp] theorem State.setPending_keepPulsing : (s.setPending).keepPulsing = s.keepPulsing := by
  unfold State.setPending; split <;> [split; skip] <;> rfl
@[simp] theorem State.setPending_joyNow : (s.setPending).joyNow = s.joyNow := by
  unfold State.setPending; split <;> [split; skip] <;> rfl
@[simp] theorem State.setPending_joyPrev : (s.setPending).joyPrev = s.joyPrev := by
  unfold State.setPending; split <;> [split; skip] <;> rfl
@[simp] theorem State.setPending_remoteUsed : (s.setPending).remoteUsed = s.remoteUsed := by
  unfold State.setPending; split <;> [split; skip] <;> rfl
@[simp] theorem State.setPending_mstate : (s.setPending).mstate = s.mstate := by
  unfold State.setPending; split <;> [split; skip] <;> rfl
@[simp] theorem State.setPending_lstate : (s.setPending).lstate = s.lstate := by
  unfold State.setPending; split <;> [split; skip] <;> rfl
@[simp] theorem State.setPending_mCnt : (s.setPending).mCnt = s.mCnt := by
  unfold State.setPending; split <;> [split; skip] <;> rfl
@[simp] theorem State.setPending_lCnt : (s.setPending).lCnt = s.lCnt := by
  unfold State.setPending; split <;> [split; skip] <;> rfl
@[simp] theorem State.setPending_limMeta : (s.setPending).limMeta = s.limMeta := by
  unfold State.setPending; split <;> [split; skip] <;> rfl
@[simp] theorem State.setPending_limS : (s.setPending).limS = s.limS := by
  unfold State.setPending; split <;> [split; skip] <;> rfl
@[simp] theorem State.setPending_limPrev : (s.setPending).limPrev = s.limPrev := by
  unfold State.setPending; split <;> [split; skip] <;> rfl
@[simp] theorem State.setPending_limPend : (s.setPending).limPend = s.limPend := by
  unfold State.setPending; split <;> [split; skip] <;> rfl
@[simp] theorem State.setPending_stepX : (s.setPending).stepX = s.stepX := by
  unfold State.setPending; split <;> [split; skip] <;> rfl
@[simp] theorem State.setPending_stepY : (s.setPending).stepY = s.stepY := by
  unfold State.setPending; split <;> [split; skip] <;> rfl
@[simp] theorem State.setPending_stepZ : (s.setPending).stepZ = s.stepZ := by
  unfold State.setPending; split <;> [split; skip] <;> rfl
@[simp] theorem State.setPending_dirOut : (s.setPending).dirOut = s.dirOut := by
  unfold State.setPending; split <;> [split; skip] <;> rfl
@[simp] theorem State.setPending_params : (s.setPending).params = s.params := by
  unfold State.setPending; split <;> [split; skip] <;> rfl
@[simp] theorem State.setPending_inputs : (s.setPending).inputs = s.inputs := by
  unfold State.setPending; split <;> [split; skip] <;> rfl
@[simp] theorem State.setPending_tick : (s.setPending).tick = s.tick := by
  unfold State.setPending; split <;> [split; skip] <;> rfl

/-! ### `latch` -/

@[simp] theorem State.latch_buf : (s.latch p t).buf = t.buf := rfl
@[simp] theorem State.latch_rxIdx : (s.latch p t).rxIdx = t.rxIdx := rfl
@[simp] theorem State.latch_pulseRem : (s.latch p t).pulseRem = t.pulseRem := rfl
@[simp] theorem State.latch_txBuf : (s.latch p t).txBuf = t.txBuf := rfl
@[simp] theorem State.latch_txIdx : (s.latch p t).txIdx = t.txIdx := rfl
@[simp] theorem State.latch_activeAxis : (s.latch p t).activeAxis = t.activeAxis := rfl
@[simp] theorem State.latch_activeDir : (s.latch p t).activeDir = t.activeDir := rfl
@[simp] theorem State.latch_cmdPend : (s.latch p t).cmdPend = t.cmdPend := rfl
@[simp] theorem State.latch_queryPend : (s.latch p t).queryPend = t.queryPend := rfl
@[simp] theorem State.latch_gotoLimit : (s.latch p t).gotoLimit = t.gotoLimit := rfl
@[simp] theorem State.latch_limitHit : (s.latch p t).limitHit = t.limitHit := rfl
@[simp] theorem State.latch_keepPulsing : (s.latch p t).keepPulsing = t.keepPulsing := rfl
@[simp] theorem State.latch_joyNow : (s.latch p t).joyNow = t.joyNow := rfl
@[simp] theorem State.latch_joyPrev : (s.latch p t).joyPrev = t.joyPrev := rfl
@[simp] theorem State.latch_remoteUsed : (s.latch p t).remoteUsed = t.remoteUsed := rfl
@[simp] theorem State.latch_mstate : (s.latch p t).mstate = t.mstate := rfl
@[simp] theorem State.latch_lstate : (s.latch p t).lstate = t.lstate := rfl
@[simp] theorem State.latch_mCnt : (s.latch p t).mCnt = t.mCnt := rfl
@[simp] theorem State.latch_lCnt : (s.latch p t).lCnt = t.lCnt := rfl
@[simp] theorem State.latch_limMeta : (s.latch p t).limMeta = p.limitIn := rfl
@[simp] theorem State.latch_limS : (s.latch p t).limS = s.limMeta := rfl
@[simp] theorem State.latch_limPrev : (s.latch p t).limPrev = s.limS := rfl
@[simp] theorem State.latch_limPend : (s.latch p t).limPend = s.nextLimPend := rfl
@[simp] theorem State.latch_stepX : (s.latch p t).stepX = t.stepX := rfl
@[simp] theorem State.latch_stepY : (s.latch p t).stepY = t.stepY := rfl
@[simp] theorem State.latch_stepZ : (s.latch p t).stepZ = t.stepZ := rfl
@[simp] theorem State.latch_dirOut : (s.latch p t).dirOut = t.dirOut := rfl
@[simp] theorem State.latch_params : (s.latch p t).params = t.params := rfl
@[simp] theorem State.latch_inputs : (s.latch p t).inputs = s.inputs.tail := rfl
@[simp] theorem State.latch_tick : (s.latch p t).tick = s.tick + 1 := rfl

/-! ### `resetTick` -/

@[simp] theorem State.resetTick_buf : s.resetTick.buf = State.reset.buf := rfl
@[simp] theorem State.resetTick_rxIdx : s.resetTick.rxIdx = State.reset.rxIdx := rfl
@[simp] theorem State.resetTick_pulseRem : s.resetTick.pulseRem = State.reset.pulseRem := rfl
@[simp] theorem State.resetTick_txBuf : s.resetTick.txBuf = State.reset.txBuf := rfl
@[simp] theorem State.resetTick_txIdx : s.resetTick.txIdx = State.reset.txIdx := rfl
@[simp] theorem State.resetTick_activeAxis : s.resetTick.activeAxis = State.reset.activeAxis := rfl
@[simp] theorem State.resetTick_activeDir : s.resetTick.activeDir = State.reset.activeDir := rfl
@[simp] theorem State.resetTick_cmdPend : s.resetTick.cmdPend = State.reset.cmdPend := rfl
@[simp] theorem State.resetTick_queryPend : s.resetTick.queryPend = State.reset.queryPend := rfl
@[simp] theorem State.resetTick_gotoLimit : s.resetTick.gotoLimit = State.reset.gotoLimit := rfl
@[simp] theorem State.resetTick_limitHit : s.resetTick.limitHit = State.reset.limitHit := rfl
@[simp] theorem State.resetTick_keepPulsing : s.resetTick.keepPulsing = State.reset.keepPulsing := rfl
@[simp] theorem State.resetTick_joyNow : s.resetTick.joyNow = State.reset.joyNow := rfl
@[simp] theorem State.resetTick_joyPrev : s.resetTick.joyPrev = State.reset.joyPrev := rfl
@[simp] theorem State.resetTick_remoteUsed : s.resetTick.remoteUsed = State.reset.remoteUsed := rfl
@[simp] theorem State.resetTick_mstate : s.resetTick.mstate = State.reset.mstate := rfl
@[simp] theorem State.resetTick_lstate : s.resetTick.lstate = State.reset.lstate := rfl
@[simp] theorem State.resetTick_mCnt : s.resetTick.mCnt = State.reset.mCnt := rfl
@[simp] theorem State.resetTick_lCnt : s.resetTick.lCnt = State.reset.lCnt := rfl
@[simp] theorem State.resetTick_limMeta : s.resetTick.limMeta = State.reset.limMeta := rfl
@[simp] theorem State.resetTick_limS : s.resetTick.limS = State.reset.limS := rfl
@[simp] theorem State.resetTick_limPrev : s.resetTick.limPrev = State.reset.limPrev := rfl
@[simp] theorem State.resetTick_limPend : s.resetTick.limPend = State.reset.limPend := rfl
@[simp] theorem State.resetTick_stepX : s.resetTick.stepX = State.reset.stepX := rfl
@[simp] theorem State.resetTick_stepY : s.resetTick.stepY = State.reset.stepY := rfl
@[simp] theorem State.resetTick_stepZ : s.resetTick.stepZ = State.reset.stepZ := rfl
@[simp] theorem State.resetTick_dirOut : s.resetTick.dirOut = State.reset.dirOut := rfl
@[simp] theorem State.resetTick_params : s.resetTick.params = s.params := rfl
@[simp] theorem State.resetTick_inputs : s.resetTick.inputs = s.inputs.tail := rfl
@[simp] theorem State.resetTick_tick : s.resetTick.tick = s.tick + 1 := rfl

end Sys2Proof.Machine
end

