-- ==== Sys2Proof/Laws/Ops.lean ====
section
/-! SUPPORT. What each shared operation can do, said once: the selected step register, the payload buffer, the signals, and the
samples the environment gives at the coming ticks. -/

namespace Sys2Proof.Machine

/-! ### Output registers -/

/-- A step write is seen by the axis it names and by no other (10_state.md R27). -/
theorem State.stepOf_stepWrite (s : State) (a b : Axis) (v : Bool) :
    (s.stepWrite a v).stepOf b = if b = a ∧ a ≠ .reserved then v else s.stepOf b := by
  cases a <;> cases b <;> rfl

@[simp] theorem State.stepWrite_reserved (s : State) (v : Bool) : s.stepWrite .reserved v = s := rfl

/-- A step write as one record: each of the three registers changes exactly if the axis names it (10_state.md R27). -/
theorem State.stepWrite_eq (s : State) (a : Axis) (v : Bool) :
    s.stepWrite a v = { s with
      stepX := if a = .x then v else s.stepX
      stepY := if a = .y then v else s.stepY
      stepZ := if a = .z then v else s.stepZ } := by
  cases a <;> rfl

/-! ### Indexed storage -/

/-- A payload write answers a buffer exactly for the indices 0 to 6 (20_memory.md R50). -/
theorem Payload.write_eq_none (b : Payload) (i : BitVec 3) (x : Byte) : b.write i x = none ↔ i = 7 := by
  have h : i = 0 ∨ i = 1 ∨ i = 2 ∨ i = 3 ∨ i = 4 ∨ i = 5 ∨ i = 6 ∨ i = 7 := by revert i; decide
  rcases h with h | h | h | h | h | h | h | h <;> subst h <;> simp [Payload.write]

/-- A payload write at a right index answers a buffer. -/
theorem Payload.write_isSome (b : Payload) (i : BitVec 3) (x : Byte) (h : i ≠ 7) : ∃ b', b.write i x = some b' := by
  cases hw : b.write i x with
  | some b' => exact ⟨b', rfl⟩
  | none => exact absurd ((b.write_eq_none i x).1 hw) h

/-- The transmit buffer read at an index is the byte at that place in wire order (20_memory.md R52). -/
theorem TxFrame.read_eq (f : TxFrame) (i : BitVec 2) : f.read i = f.bytes.getD i.toNat 0 := by
  have h : i = 0 ∨ i = 1 ∨ i = 2 ∨ i = 3 := by revert i; decide
  rcases h with rfl | rfl | rfl | rfl <;> rfl

/-! ### Signals -/

theorem State.mainEn_iff (s : State) : s.mainEn = true ↔ s.lstate = .idle ∧ s.limPend = false := by
  simp [State.mainEn]

/-- LSM does nothing at a tick at which MAIN runs (10_state.md R38). -/
theorem State.lsmRule_of_mainEn (s : State) (h : s.mainEn = true) : s.lsmRule = s := by
  obtain ⟨hl, hp⟩ := s.mainEn_iff.1 h
  simp [State.lsmRule, hl, State.lIdleRule, hp]

/-! ### The environment's samples -/

theorem State.inputAt_zero (s : State) : s.inputAt 0 = s.input := rfl

/-- After a tick the next sample is the second one of before. -/
theorem State.inputAt_next {s t : State} (hi : t.inputs = s.inputs.tail) (ht : t.tick = s.tick + 1) (j : Nat) :
    t.inputAt j = s.inputAt (j + 1) := by
  unfold State.inputAt
  rw [hi, ht]
  cases s.inputs with
  | nil => simp [Nat.add_assoc, Nat.add_comm 1 j]
  | cons p ps => simp [Nat.add_assoc, Nat.add_comm 1 j]

end Sys2Proof.Machine
end

