-- ==== Sys2Proof/Laws/PerInstr.lean ====
section
/-! SUPPORT. What holds of every frame as syntax, one lemma per constructor of `Instr`: a well-formed frame's bytes select the
frame's row of the command map (30_encoding.md R96, R97, R106). -/

namespace Sys2Proof.Laws

/-- The bytes of a well-formed frame select its row. -/
def SelectsRow.Statement (i : Instr) : Prop :=
  i.wellFormed = true → (rowOf i).selects (encode i) = true

/-- The query bit of a control byte, seen through the row's mask. -/
theorem ctrlByte_query (a : Axis) (d : Bool) (ign : BitVec 4) (q : Bool) :
    ctrlByte a d ign q &&& 0x01 = if q then 0x01 else 0x00 := by
  revert d ign q
  cases a <;> decide

/-- A command frame selects a row whose mask fixes `START`, the query bit, some bits of the go-to-limit byte and `END`. -/
theorem commandBytes_select (a : Axis) (d : Bool) (ign : BitVec 4) (q : Bool) (g : Byte) (c : Count) (m v qv : Byte)
    (hg : g &&& m = v) (hq : (if q then 0x01 else 0x00 : Byte) = qv) :
    (Row.mk 8 (frameNumber [0xFF, 0x01, m, 0, 0, 0, 0, 0xFF]) (frameNumber [0x07, qv, v, 0, 0, 0, 0, 0x0A])).selects
      (commandBytes a d ign q g c) = true := by
  rw [Row.selects_iff 8 _ _ _ rfl rfl]
  refine ⟨rfl, ?_⟩
  have hc := ctrlByte_query a d ign q
  simpa [commandBytes, startByte, endByte, hg, ← hq] using hc

/-- A response frame selects a row whose mask fixes all but some bits of its third byte. -/
theorem responseBytes_select (st third m v : Byte) (h : third &&& m = v) :
    (Row.mk 4 (frameNumber [0xFF, 0xFF, m, 0xFF]) (frameNumber [0x07, st, v, 0x0A])).selects (responseBytes st third) =
      true := by
  rw [Row.selects_iff 4 _ _ _ rfl rfl]
  refine ⟨rfl, ?_⟩
  have hs : st &&& 0xFF = st := BitVec.and_allOnes
  simpa [responseBytes, startByte, endByte, h] using hs

theorem fits_iff (m v b : Byte) : Byte.fits m v b = true ↔ b &&& m = v := by
  simp [Byte.fits]

theorem SelectsRow.move (a : Axis) (d : Bool) (ign : BitVec 4) (c : Count) : SelectsRow.Statement (.move a d ign c) :=
  fun _ => commandBytes_select a d ign false gotoOff c 0xFF 0x00 0x00 rfl rfl

theorem SelectsRow.gotolim (a : Axis) (d : Bool) (ign : BitVec 4) (c : Count) :
    SelectsRow.Statement (.gotolim a d ign c) :=
  fun _ => commandBytes_select a d ign false gotoOn c 0xFF 0xFF 0x00 rfl rfl

theorem SelectsRow.query (a : Axis) (d : Bool) (ign : BitVec 4) (g : Byte) (c : Count) :
    SelectsRow.Statement (.query a d ign g c) :=
  fun _ => commandBytes_select a d ign true g c 0x00 0x00 0x01 (by simp) rfl

theorem SelectsRow.rsvGoto01 (a : Axis) (d : Bool) (ign : BitVec 4) (g : Byte) (c : Count) :
    SelectsRow.Statement (.rsvGoto01 a d ign g c) :=
  fun h => commandBytes_select a d ign false g c 0xC0 0x40 0x00 ((fits_iff _ _ g).1 h) rfl

theorem SelectsRow.rsvGoto10 (a : Axis) (d : Bool) (ign : BitVec 4) (g : Byte) (c : Count) :
    SelectsRow.Statement (.rsvGoto10 a d ign g c) :=
  fun h => commandBytes_select a d ign false g c 0xC0 0x80 0x00 ((fits_iff _ _ g).1 h) rfl

theorem SelectsRow.rsvGoto001 (a : Axis) (d : Bool) (ign : BitVec 4) (g : Byte) (c : Count) :
    SelectsRow.Statement (.rsvGoto001 a d ign g c) :=
  fun h => commandBytes_select a d ign false g c 0xE0 0x20 0x00 ((fits_iff _ _ g).1 h) rfl

theorem SelectsRow.rsvGoto0001 (a : Axis) (d : Bool) (ign : BitVec 4) (g : Byte) (c : Count) :
    SelectsRow.Statement (.rsvGoto0001 a d ign g c) :=
  fun h => commandBytes_select a d ign false g c 0xF0 0x10 0x00 ((fits_iff _ _ g).1 h) rfl

theorem SelectsRow.rsvGoto00001 (a : Axis) (d : Bool) (ign : BitVec 4) (g : Byte) (c : Count) :
    SelectsRow.Statement (.rsvGoto00001 a d ign g c) :=
  fun h => commandBytes_select a d ign false g c 0xF8 0x08 0x00 ((fits_iff _ _ g).1 h) rfl

theorem SelectsRow.rsvGoto000001 (a : Axis) (d : Bool) (ign : BitVec 4) (g : Byte) (c : Count) :
    SelectsRow.Statement (.rsvGoto000001 a d ign g c) :=
  fun h => commandBytes_select a d ign false g c 0xFC 0x04 0x00 ((fits_iff _ _ g).1 h) rfl

theorem SelectsRow.rsvGoto0000001 (a : Axis) (d : Bool) (ign : BitVec 4) (g : Byte) (c : Count) :
    SelectsRow.Statement (.rsvGoto0000001 a d ign g c) :=
  fun h => commandBytes_select a d ign false g c 0xFE 0x02 0x00 ((fits_iff _ _ g).1 h) rfl

theorem SelectsRow.rsvGoto00000001 (a : Axis) (d : Bool) (ign : BitVec 4) (g : Byte) (c : Count) :
    SelectsRow.Statement (.rsvGoto00000001 a d ign g c) :=
  fun h => commandBytes_select a d ign false g c 0xFF 0x01 0x00 ((fits_iff _ _ g).1 h) rfl

theorem SelectsRow.rsvGoto110 (a : Axis) (d : Bool) (ign : BitVec 4) (g : Byte) (c : Count) :
    SelectsRow.Statement (.rsvGoto110 a d ign g c) :=
  fun h => commandBytes_select a d ign false g c 0xE0 0xC0 0x00 ((fits_iff _ _ g).1 h) rfl

theorem SelectsRow.rsvGoto1110 (a : Axis) (d : Bool) (ign : BitVec 4) (g : Byte) (c : Count) :
    SelectsRow.Statement (.rsvGoto1110 a d ign g c) :=
  fun h => commandBytes_select a d ign false g c 0xF0 0xE0 0x00 ((fits_iff _ _ g).1 h) rfl

theorem SelectsRow.rsvGoto11110 (a : Axis) (d : Bool) (ign : BitVec 4) (g : Byte) (c : Count) :
    SelectsRow.Statement (.rsvGoto11110 a d ign g c) :=
  fun h => commandBytes_select a d ign false g c 0xF8 0xF0 0x00 ((fits_iff _ _ g).1 h) rfl

theorem SelectsRow.rsvGoto111110 (a : Axis) (d : Bool) (ign : BitVec 4) (g : Byte) (c : Count) :
    SelectsRow.Statement (.rsvGoto111110 a d ign g c) :=
  fun h => commandBytes_select a d ign false g c 0xFC 0xF8 0x00 ((fits_iff _ _ g).1 h) rfl

theorem SelectsRow.rsvGoto1111110 (a : Axis) (d : Bool) (ign : BitVec 4) (g : Byte) (c : Count) :
    SelectsRow.Statement (.rsvGoto1111110 a d ign g c) :=
  fun h => commandBytes_select a d ign false g c 0xFE 0xFC 0x00 ((fits_iff _ _ g).1 h) rfl

theorem SelectsRow.rsvGoto11111110 (a : Axis) (d : Bool) (ign : BitVec 4) (g : Byte) (c : Count) :
    SelectsRow.Statement (.rsvGoto11111110 a d ign g c) :=
  fun h => commandBytes_select a d ign false g c 0xFF 0xFE 0x00 ((fits_iff _ _ g).1 h) rfl

theorem SelectsRow.respReset : SelectsRow.Statement .respReset :=
  fun _ => responseBytes_select 0xFF 0x00 0xFF 0x00 rfl

theorem SelectsRow.respOk : SelectsRow.Statement .respOk :=
  fun _ => responseBytes_select 0xF0 0x00 0xFF 0x00 rfl

theorem SelectsRow.respLimit : SelectsRow.Statement .respLimit :=
  fun _ => responseBytes_select 0x0F 0x00 0xFF 0x00 rfl

theorem SelectsRow.respUsed (u : Byte) : SelectsRow.Statement (.respUsed u) :=
  fun h => responseBytes_select 0x00 u 0xFE 0x00 ((fits_iff _ _ u).1 h)

end Sys2Proof.Laws
end

