-- ==== Sys2Proof/Laws/Step.lean ====
section
/-! SUPPORT. What one tick can do, said once: its three cases, MAIN's rule in each state, and runs of ticks cut in two. -/

namespace Sys2Proof.Machine

/-! ### The three cases of a tick -/

theorem step_of_reset (s : State) (h : s.input.rst = true) : step s = .next s.resetTick := by
  simp [step, clockTick, h]

theorem step_of_main (s t : State) (h : s.input.rst = false) (he : s.mainEn = true)
    (hm : mainRule s.input s = .next t) : step s = .next (s.latch s.input t) := by
  simp [step, clockTick, agentRule, h, he, hm]

theorem step_of_held (s : State) (h : s.input.rst = false) (he : s.mainEn = false) :
    step s = .next (s.latch s.input s.lsmRule) := by
  simp [step, clockTick, agentRule, h, he]

/-- A tick at which a handler runs or is pending is LSM's (60_exceptions.md R224). -/
theorem step_of_handler (s : State) (h : s.input.rst = false) (hl : s.lstate ≠ .idle ∨ s.limPend = true) :
    step s = .next (s.latch s.input s.lsmRule) := by
  refine step_of_held s h ?_
  rcases hl with hl | hl <;> simp [State.mainEn, hl]

/-- Everything a tick that answers a next state can do. -/
theorem step_cases {s s' : State} (h : step s = .next s') :
    (s.input.rst = true ∧ s' = s.resetTick) ∨
    (s.input.rst = false ∧ s.mainEn = true ∧ ∃ t, mainRule s.input s = .next t ∧ s' = s.latch s.input t) ∨
    (s.input.rst = false ∧ s.mainEn = false ∧ s' = s.latch s.input s.lsmRule) := by
  cases hr : s.input.rst with
  | true =>
    rw [step_of_reset s hr] at h
    cases h
    exact .inl ⟨rfl, rfl⟩
  | false =>
    cases he : s.mainEn with
    | false =>
      rw [step_of_held s hr he] at h
      cases h
      exact .inr (.inr ⟨rfl, rfl, rfl⟩)
    | true =>
      cases hm : mainRule s.input s with
      | next t =>
        rw [step_of_main s t hr he hm] at h
        cases h
        exact .inr (.inl ⟨rfl, rfl, t, rfl, rfl⟩)
      | fault f => simp [step, clockTick, agentRule, hr, he, hm] at h
      | refused r => simp [step, clockTick, agentRule, hr, he, hm] at h

/-- The environment's clock moves at every tick. -/
theorem step_clock {s s' : State} (h : step s = .next s') :
    s'.inputs = s.inputs.tail ∧ s'.tick = s.tick + 1 := by
  rcases step_cases h with ⟨_, rfl⟩ | ⟨_, _, t, _, rfl⟩ | ⟨_, _, rfl⟩ <;> exact ⟨rfl, rfl⟩

/-- After a tick the samples have moved up by one. -/
theorem step_inputAt {s s' : State} (h : step s = .next s') (j : Nat) : s'.inputAt j = s.inputAt (j + 1) :=
  State.inputAt_next (step_clock h).1 (step_clock h).2 j

/-! ### MAIN's rule, state by state -/

variable {p : PortIn} {s : State}

theorem mainRule_boot (h : s.mstate = .boot) : mainRule p s = .next (s.buildFrame 0xFF 0x00) := by
  simp [mainRule, h, exec, execRespReset, statusReset]

theorem mainRule_poll (h : s.mstate = .poll) : mainRule p s = .next (s.pollRule p) := by
  simp [mainRule, h]

theorem mainRule_collect (h : s.mstate = .collect) : mainRule p s = collectRule s p := by
  simp [mainRule, h]

theorem mainRule_parse (h : s.mstate = .parse) : mainRule p s = .next s.parseRule := by
  simp [mainRule, h]

theorem mainRule_dispatch (h : s.mstate = .dispatch) : mainRule p s = .next s.dispatchRule := by
  simp [mainRule, h]

theorem mainRule_pcheck (h : s.mstate = .pcheck) : mainRule p s = .next s.pcheckRule := by
  simp [mainRule, h]

theorem mainRule_phigh (h : s.mstate = .phigh) : mainRule p s = .next s.phighRule := by
  simp [mainRule, h]

theorem mainRule_plow (h : s.mstate = .plow) : mainRule p s = .next s.plowRule := by
  simp [mainRule, h]

theorem mainRule_resp (h : s.mstate = .resp) :
    mainRule p s = .next (s.buildFrame (if s.limitHit && !s.gotoLimit then 0x0F else 0xF0) 0x00) := by
  cases hu : (s.limitHit && !s.gotoLimit) <;>
    simp [mainRule, h, State.statusFrame, State.unexpectedLimit, hu, exec, execRespOk, execRespLimit, statusSuccess,
      statusLimit]

theorem mainRule_tx (h : s.mstate = .tx) : mainRule p s = .next (s.txRule p) := by
  simp [mainRule, h]

theorem mainRule_joywait (h : s.mstate = .joywait) : mainRule p s = .next s.joywaitRule := by
  simp [mainRule, h]

theorem mainRule_joyread (h : s.mstate = .joyread) : mainRule p s = .next (s.joyreadRule p) := by
  simp [mainRule, h]

theorem mainRule_cycleEnd (h : s.mstate = .cycleEnd) : mainRule p s = .next s.endRule := by
  simp [mainRule, h]

/-- Whatever the buffer holds, `M_QRESP` replies with `remote_used` and clears it (43_response_encoder.md R184). -/
theorem mainRule_qresp (h : s.mstate = .qresp) : mainRule p s = .next (s.replyUsed (usedByte s.remoteUsed)) := by
  simp only [mainRule, h, State.queryFrame]
  split
  · cases hc : s.captured.filter isQuery with
    | none => rfl
    | some i =>
      have hq : isQuery i = true := by
        rw [Option.filter_eq_some_iff] at hc
        exact hc.2
      cases i <;> simp [isQuery] at hq
      rfl
  · rfl

/-- Every reserved form is a command, and runs as `MOVE` (41_pulse_generator.md R143). -/
theorem exec_reservedGoto (a : Axis) (d : Bool) (ign : BitVec 4) (g : Byte) (c : Count) (s : State) :
    isCommand (reservedGoto a d ign g c) = true ∧
      exec (reservedGoto a d ign g c) s = .next (s.startCommand a d false c) := by
  refine reservedGoto_induction (P := fun i => isCommand i = true ∧ exec i s = .next (s.startCommand a d false c))
    ?_ ?_ ?_ ?_ ?_ ?_ ?_ ?_ ?_ ?_ ?_ ?_ ?_ ?_ <;> intros <;> exact ⟨rfl, rfl⟩

/-- The command in the buffer runs with the fields of the buffer (41_pulse_generator.md R131). -/
theorem exec_capturedCommand {i : Instr} (hi : s.capturedCommand = some i) :
    exec i s =
      .next (s.startCommand (ctrlAxis s.buf.ctrl) (ctrlDir s.buf.ctrl) s.buf.gotoMode s.buf.count) := by
  simp only [State.capturedCommand, State.captured, Payload.frame, decode, decodeCommand, ne_eq, not_true,
    if_false] at hi
  split at hi
  · simp [Decoded.frame?] at hi
  · split at hi
    · simp [Decoded.frame?, Option.filter_some, isCommand] at hi
    · split at hi
      · next hon =>
        simp only [Decoded.frame?, Option.filter_some, isCommand, if_true, Option.some.injEq] at hi
        subst hi
        simp [exec, execGotolim, Payload.gotoMode, Payload.count, hon]
      · next hon =>
        have hg : s.buf.gotoMode = false := by simpa [Payload.gotoMode] using hon
        rw [hg]
        split at hi
        · simp only [Decoded.frame?, Option.filter_some, isCommand, if_true, Option.some.injEq] at hi
          subst hi
          rfl
        · obtain ⟨hc, he⟩ := exec_reservedGoto (ctrlAxis s.buf.ctrl) (ctrlDir s.buf.ctrl) (ctrlIgnored s.buf.ctrl)
            s.buf.gotoByte (countOf s.buf.p3 s.buf.p2 s.buf.p1 s.buf.p0) s
          simp only [Decoded.frame?, Option.filter_some, hc, if_true, Option.some.injEq] at hi
          subst hi
          exact he

/-- Whatever the buffer holds, `M_EXEC` latches its fields (41_pulse_generator.md R131). -/
theorem mainRule_exec (h : s.mstate = .exec) :
    mainRule p s =
      .next (s.startCommand (ctrlAxis s.buf.ctrl) (ctrlDir s.buf.ctrl) s.buf.gotoMode s.buf.count) := by
  cases hc : s.capturedCommand with
  | none => simp [mainRule, h, hc]
  | some i => simpa [mainRule, h, hc] using exec_capturedCommand hc

/-! ### Two rules with cases inside -/

/-- Everything a tick of `M_COLLECT` can do when it answers a next state (40_command_decoder.md R112). -/
theorem collectRule_cases {t : State} (h : collectRule s p = .next t) :
    (p.rxValid = false ∧ t = s) ∨
    (p.rxValid = true ∧ ∃ b, s.buf.write s.rxIdx p.rxData = some b ∧
      ((s.rxIdx = 6 ∧ t = { s with buf := b, mstate := .parse }) ∨
        (s.rxIdx ≠ 6 ∧ t = { s with buf := b, rxIdx := s.rxIdx + 1 }))) := by
  unfold collectRule at h
  split at h
  · next hv =>
    split at h
    · next b hb =>
      refine .inr ⟨hv, b, hb, ?_⟩
      split at h
      · next h6 => cases h; exact .inl ⟨h6, rfl⟩
      · next h6 => cases h; exact .inr ⟨h6, rfl⟩
    · cases h
  · next hv =>
    cases h
    exact .inl ⟨Bool.eq_false_iff.2 hv, rfl⟩

/-- `M_PARSE` as one record (40_command_decoder.md R113). -/
theorem State.parseRule_eq (s : State) :
    s.parseRule = { s with
      queryPend := if s.buf.last = endByte ∧ ctrlQuery s.buf.ctrl = true then true else s.queryPend
      cmdPend := if s.buf.last = endByte ∧ ctrlQuery s.buf.ctrl = false then true else s.cmdPend
      mstate := .dispatch } := by
  unfold State.parseRule State.setPending
  by_cases h : s.buf.last = endByte
  · cases hq : ctrlQuery s.buf.ctrl
    · rw [if_pos h, if_neg Bool.false_ne_true, if_pos ⟨h, rfl⟩, if_neg (fun hc => Bool.false_ne_true hc.2)]
    · rw [if_pos h, if_pos rfl, if_neg (fun hc => Bool.false_ne_true hc.2.symm), if_pos ⟨h, rfl⟩]
  · rw [if_neg h, if_neg (fun hc => h hc.1), if_neg (fun hc => h hc.1)]

/-! ### Runs -/

@[simp] theorem ticks_zero (s : State) : ticks 0 s = .next s := rfl

theorem ticks_succ {k : Nat} {s t : State} (h : step s = .next t) : ticks (k + 1) s = ticks k t := by
  simp [ticks, h]

theorem trace_succ {k : Nat} {s t : State} (h : step s = .next t) : trace (k + 1) s = tickObs s t ++ trace k t := by
  simp [trace, h]

/-- A run cut in two. -/
theorem ticks_add {j k : Nat} {s t : State} (h : ticks j s = .next t) : ticks (j + k) s = ticks k t := by
  induction j generalizing s with
  | zero => cases h; simp
  | succ j ih =>
    cases hs : step s with
    | next u =>
      rw [ticks_succ hs] at h
      rw [show j + 1 + k = (j + k) + 1 by omega, ticks_succ hs]
      exact ih h
    | fault f => simp [ticks, hs] at h
    | refused r => simp [ticks, hs] at h

/-- The trace of a run cut in two. -/
theorem trace_add {j k : Nat} {s t : State} (h : ticks j s = .next t) :
    trace (j + k) s = trace j s ++ trace k t := by
  induction j generalizing s with
  | zero => cases h; simp [trace]
  | succ j ih =>
    cases hs : step s with
    | next u =>
      rw [ticks_succ hs] at h
      rw [show j + 1 + k = (j + k) + 1 by omega, trace_succ hs, trace_succ hs, ih h, List.append_assoc]
    | fault f => simp [ticks, hs] at h
    | refused r => simp [ticks, hs] at h

/-- The samples after a run of `k` ticks. -/
theorem ticks_inputAt {k : Nat} {s t : State} (h : ticks k s = .next t) (j : Nat) :
    t.inputAt j = s.inputAt (k + j) := by
  induction k generalizing s with
  | zero => cases h; simp
  | succ k ih =>
    cases hs : step s with
    | next u =>
      rw [ticks_succ hs] at h
      rw [ih h, step_inputAt hs, show k + j + 1 = k + 1 + j by omega]
    | fault f => simp [ticks, hs] at h
    | refused r => simp [ticks, hs] at h

end Sys2Proof.Machine
end

