-- ==== Sys2Proof/Tests/Slice0.lean ====
section
/-! SUPPORT. The model's own tests: the refusals of `WellFormed`, words written out from 30_encoding.md, single steps from the
spec's examples, and for each statement with hypotheses a witness, a concrete state that meets them all. -/

namespace Sys2Proof.Tests

open Sys2Proof Sys2Proof.Machine

/-! ### Well-formedness: each check refuses an ill-formed frame -/

theorem test_illformed_01 : (Instr.rsvGoto01 .x false 0 0x80 0).wellFormed = false := by decide
theorem test_illformed_10 : (Instr.rsvGoto10 .x false 0 0x40 0).wellFormed = false := by decide
theorem test_illformed_001 : (Instr.rsvGoto001 .x false 0 0x40 0).wellFormed = false := by decide
theorem test_illformed_0001 : (Instr.rsvGoto0001 .x false 0 0x20 0).wellFormed = false := by decide
theorem test_illformed_00001 : (Instr.rsvGoto00001 .x false 0 0x10 0).wellFormed = false := by decide
theorem test_illformed_000001 : (Instr.rsvGoto000001 .x false 0 0x08 0).wellFormed = false := by decide
theorem test_illformed_0000001 : (Instr.rsvGoto0000001 .x false 0 0x04 0).wellFormed = false := by decide
theorem test_illformed_00000001 : (Instr.rsvGoto00000001 .x false 0 0x00 0).wellFormed = false := by decide
theorem test_illformed_110 : (Instr.rsvGoto110 .x false 0 0xE0 0).wellFormed = false := by decide
theorem test_illformed_1110 : (Instr.rsvGoto1110 .x false 0 0xF0 0).wellFormed = false := by decide
theorem test_illformed_11110 : (Instr.rsvGoto11110 .x false 0 0xF8 0).wellFormed = false := by decide
theorem test_illformed_111110 : (Instr.rsvGoto111110 .x false 0 0xFC 0).wellFormed = false := by decide
theorem test_illformed_1111110 : (Instr.rsvGoto1111110 .x false 0 0xFE 0).wellFormed = false := by decide
theorem test_illformed_11111110 : (Instr.rsvGoto11111110 .x false 0 0xFF 0).wellFormed = false := by decide
theorem test_illformed_used : (Instr.respUsed 0x02).wellFormed = false := by decide

/-! ### Decoding: words written out from 30_encoding.md R81 to R88, R97, R104

The bytes are `START ctrl gotoLimit p3 p2 p1 p0 END`; `ctrl` is axis (2 bits), direction, four ignored bits, query bit. -/

/-- 30_encoding.md R104: `MOVE Z - 0x12345678`, `ctrl = 10 1 0000 0`. -/
theorem test_decode_move : decodeTableWord 64 0x07A000123456780A = some (.move .z true 0 0x12345678) := by decide
/-- `MOVE Y + 1` with every ignored bit set, `ctrl = 01 0 1111 0`. -/
theorem test_decode_move_ignored : decodeTableWord 64 0x075E00000000010A = some (.move .y false 0xF 1) := by decide
/-- 41_pulse_generator.md R142: the example `07 80 FF 12 34 56 78 0A`. -/
theorem test_decode_gotolim : decodeTableWord 64 0x0780FF123456780A = some (.gotolim .z false 0 0x12345678) := by decide
/-- 30_encoding.md R104: `QUERY`. -/
theorem test_decode_query : decodeTableWord 64 0x070100000000000A = some (.query .x false 0 0 0) := by decide
/-- 30_encoding.md R90, tests 3 and 4: the query bit comes before the go-to-limit byte. -/
theorem test_decode_query_first : decodeTableWord 64 0x07E3FF000000050A = some (.query .reserved true 1 0xFF 5) := by decide
/-- 41_pulse_generator.md R143: the example `07 00 7F 00 00 00 02 0A`. -/
theorem test_decode_rsv01 : decodeTableWord 64 0x07007F000000020A = some (.rsvGoto01 .x false 0 0x7F 2) := by decide
theorem test_decode_rsv10 : decodeTableWord 64 0x072080000000000A = some (.rsvGoto10 .x true 0 0x80 0) := by decide
theorem test_decode_rsv001 : decodeTableWord 64 0x07402B000000010A = some (.rsvGoto001 .y false 0 0x2B 1) := by decide
theorem test_decode_rsv0001 : decodeTableWord 64 0x07601F0000FF000A = some (.rsvGoto0001 .y true 0 0x1F 0xFF00) := by decide
/-- A `START` and `END` value inside the payload is data (20_memory.md R61). -/
theorem test_decode_rsv00001 :
    decodeTableWord 64 0x070A0A0A0A0A0A0A = some (.rsvGoto00001 .x false 5 0x0A 0x0A0A0A0A) := by decide
theorem test_decode_rsv000001 : decodeTableWord 64 0x078007000000010A = some (.rsvGoto000001 .z false 0 0x07 1) := by decide
theorem test_decode_rsv0000001 : decodeTableWord 64 0x070002000000010A = some (.rsvGoto0000001 .x false 0 0x02 1) := by decide
theorem test_decode_rsv00000001 : decodeTableWord 64 0x070001000000010A = some (.rsvGoto00000001 .x false 0 0x01 1) := by decide
theorem test_decode_rsv110 : decodeTableWord 64 0x0700DF000000010A = some (.rsvGoto110 .x false 0 0xDF 1) := by decide
theorem test_decode_rsv1110 : decodeTableWord 64 0x0700E0000000010A = some (.rsvGoto1110 .x false 0 0xE0 1) := by decide
theorem test_decode_rsv11110 : decodeTableWord 64 0x0700F7000000010A = some (.rsvGoto11110 .x false 0 0xF7 1) := by decide
theorem test_decode_rsv111110 : decodeTableWord 64 0x0700FB000000010A = some (.rsvGoto111110 .x false 0 0xFB 1) := by decide
theorem test_decode_rsv1111110 : decodeTableWord 64 0x0700FD000000010A = some (.rsvGoto1111110 .x false 0 0xFD 1) := by decide
theorem test_decode_rsv11111110 : decodeTableWord 64 0x0700FE000000010A = some (.rsvGoto11111110 .x false 0 0xFE 1) := by decide
/-- 30_encoding.md R98: the reserved axis is accepted. -/
theorem test_decode_reserved_axis : decodeTableWord 64 0x07C000000000050A = some (.move .reserved false 0 5) := by decide
theorem test_decode_reset : decodeTableWord 32 0x07FF000A = some .respReset := by decide
theorem test_decode_ok : decodeTableWord 32 0x07F0000A = some .respOk := by decide
theorem test_decode_limit : decodeTableWord 32 0x070F000A = some .respLimit := by decide
theorem test_decode_used : decodeTableWord 32 0x0700010A = some (.respUsed 1) := by decide
/-- 40_command_decoder.md R113: the example `00 00 00 00 00 05 0B`, a wrong `END`. -/
theorem test_decode_wrong_end :
    decode [0x07, 0x00, 0x00, 0x00, 0x00, 0x00, 0x05, 0x0B] = .rejected .wrongEnd := by decide
theorem test_decode_wrong_start :
    decode [0x41, 0x00, 0x00, 0x00, 0x00, 0x00, 0x05, 0x0A] = .rejected .wrongStart := by decide
/-- 30_encoding.md R88: bits 7..1 of `used` are 0. -/
theorem test_decode_not_emitted : decode [0x07, 0x00, 0x02, 0x0A] = .rejected .notEmitted := by decide

/-! ### The states of the tests -/

/-- `PHASE_TICKS = 2`, `DEBOUNCE_TICKS = 1`, `JOY_DELAY_TICKS = 3` and the defaults of 00_scope.md R2. -/
def params : Params where
  clkHz := 1000000
  phaseTicks := 2
  debounceTicks := 1
  joyDelayTicks := 3
  joyUdBase := 700
  joyUdHi := 200
  joyUdLo := 400
  joyUdHiDir := true
  joyUdLoDir := false

/-- No byte, a ready link, the limit input at 0, both joystick channels centred. -/
def calm : PortIn where
  rst := false
  rxValid := false
  rxData := 0
  txReady := true
  limitIn := false
  adcLr := 700
  adcUd := 700

/-- The host offers a byte. -/
def offer (b : Byte) : PortIn :=
  { calm with rxValid := true, rxData := b }

/-- A state between two cycles, with the limit input at 0 and the given samples to come. -/
def idle (inputs : List PortIn) : State :=
  { State.reset with
    params := params
    limMeta := false
    limS := false
    limPrev := false
    mstate := .poll
    txBuf := ⟨0x07, 0xFF, 0x00, 0x0A⟩
    inputs := inputs }

/-- The state after `k` ticks. -/
def after (k : Nat) (s : State) : State :=
  match ticks k s with
  | .next t => t
  | _ => s

/-- A command about to be executed: the buffer holds `ctrl`, `g` and a count below 256. -/
def executing (ctrl g p0 : Byte) (inputs : List PortIn) : State :=
  { idle inputs with mstate := .exec, cmdPend := true, buf := ⟨ctrl, g, 0x00, 0x00, 0x00, p0, 0x0A⟩ }

/-- A state in the middle of a burst on Y with two pulses left. -/
def bursting (inputs : List PortIn) : State :=
  { executing 0x60 0x00 0x02 inputs with
    mstate := .pcheck
    activeAxis := .y
    activeDir := true
    dirOut := true
    pulseRem := 2 }

/-- The same burst with an edge of the limit input pending. -/
def interrupted (inputs : List PortIn) : State :=
  { bursting inputs with limPend := true, limMeta := true, limS := true, limPrev := true }

/-- The limit input at 1. -/
def pressed : PortIn :=
  { calm with limitIn := true }

/-- The invariant as a check that can be evaluated. -/
def invHolds (s : State) : Bool :=
    decide (s.params.Valid) &&
    decide (s.rxIdx ≠ 7) &&
    decide (s.mCnt ≤ s.params.timerMax) &&
    decide (s.lCnt ≤ s.params.timerMax) &&
    decide (¬(s.cmdPend = true ∧ s.queryPend = true)) &&
    decide (s.mstate.nothingPending = true → s.cmdPend = false ∧ s.queryPend = false) &&
    decide (s.mstate = .exec ∨ s.mstate = .resp → s.cmdPend = true) &&
    decide (s.mstate = .qresp → s.queryPend = true) &&
    decide (s.mstate.inBurst = true → s.queryPend = false) &&
    decide (s.mstate.inBurst = true → s.activeAxis ≠ .reserved) &&
    decide (s.mstate = .phigh ∨ s.mstate = .plow → s.pulseRem ≠ 0) &&
    decide (s.stepX = true → .x = s.activeAxis ∧ (s.mstate = .phigh ∨ s.lstate = .high)) &&
    decide (s.stepY = true → .y = s.activeAxis ∧ (s.mstate = .phigh ∨ s.lstate = .high)) &&
    decide (s.stepZ = true → .z = s.activeAxis ∧ (s.mstate = .phigh ∨ s.lstate = .high)) &&
    decide (s.lstate.acting = true → s.cmdPend = true ∧ s.dirOut = !s.activeDir) &&
    decide (s.gotoLimit = true → s.cmdPend = true) &&
    decide (s.limitHit = true → s.cmdPend = true) &&
    decide (s.joyNow = true → (s.mstate.inBurst = true ∨ s.mstate = .cycleEnd) ∧ s.cmdPend = false ∧ s.queryPend = false ∧ s.remoteUsed = true) &&
    decide (s.mstate.inBurst = true → s.cmdPend = true ∨ s.joyNow = true) &&
    decide (s.mstate ≠ .boot → s.txBuf.bytes ∈ emittedFrames)

theorem inv_of (s : State) (h : invHolds s = true) : s.Inv := by
  simp only [invHolds, Bool.and_eq_true, decide_eq_true_eq] at h
  obtain ⟨⟨⟨⟨⟨⟨⟨⟨⟨⟨⟨⟨⟨⟨⟨⟨⟨⟨⟨h1, h2⟩, h3⟩, h4⟩, h5⟩, h6⟩, h7⟩, h8⟩, h9⟩, h10⟩, h11⟩, hx⟩, hy⟩, hz⟩, h13⟩, h14⟩, h15⟩, h16⟩, h17⟩, h18⟩ := h
  exact ⟨h1, h2, h3, h4, h5, h6, h7, h8, h9, h10, h11,
    fun a => by cases a <;> simp only [State.stepOf] <;> first | assumption | simp, h13, h14, h15, h16, h17, h18⟩

/-! ### Single steps, from the examples of the spec -/

/-- 41_pulse_generator.md R131: `60,00,00,00,01,00,0A` gives axis Y, negative, 256 pulses. -/
theorem test_exec_example :
    let s := { executing 0x60 0x00 0x00 [calm] with buf := ⟨0x60, 0x00, 0x00, 0x00, 0x01, 0x00, 0x0A⟩ }
    (after 1 s).activeAxis = .y ∧ (after 1 s).activeDir = true ∧ (after 1 s).dirOut = true ∧
      (after 1 s).gotoLimit = false ∧ (after 1 s).pulseRem = 256 ∧ (after 1 s).mstate = .pcheck := by decide

/-- 41_pulse_generator.md R142: `GOTOLIM` ignores its count. -/
theorem test_gotolim_count :
    (after 1 (executing 0x80 0xFF 0x05 [calm])).pulseRem = 0xFFFFFFFF ∧
      (after 1 (executing 0x80 0xFF 0x05 [calm])).gotoLimit = true := by decide

/-- 30_encoding.md R97: the byte `0xFE` acts as `0x00`. -/
theorem test_reserved_goto :
    (after 1 (executing 0x80 0xFE 0x05 [calm])).pulseRem = 5 ∧
      (after 1 (executing 0x80 0xFE 0x05 [calm])).gotoLimit = false := by decide

/-- 43_response_encoder.md R184: with `remote_used = 1` the reply is `07 00 01 0A`, and the flag is clear. -/
theorem test_query_reply :
    let s := { idle [calm] with mstate := .qresp, queryPend := true, remoteUsed := true }
    (after 1 s).txBuf = ⟨0x07, 0x00, 0x01, 0x0A⟩ ∧ (after 1 s).remoteUsed = false := by decide

/-- 43_response_encoder.md R182: the four lines of the truth table. -/
theorem test_status_table :
    let s := fun hit goto => { executing 0x00 0x00 0x00 [calm] with mstate := .resp, limitHit := hit, gotoLimit := goto }
    (after 1 (s false false)).txBuf.b1 = 0xF0 ∧ (after 1 (s false true)).txBuf.b1 = 0xF0 ∧
      (after 1 (s true false)).txBuf.b1 = 0x0F ∧ (after 1 (s true true)).txBuf.b1 = 0xF0 := by decide

/-- 60_exceptions.md R227: `active_dir = 0`, limit still 1, `cmd_pend = 1` gives `dir_out = 1`. -/
theorem test_reversal :
    let s := { interrupted [pressed] with lstate := .check, limPend := false, activeDir := false, dirOut := false }
    (after 1 s).dirOut = true ∧ (after 1 s).lstate = .loop ∧ (after 1 s).activeDir = false := by decide

/-- 42_joystick_controller.md R165: 1000 on left-right moves X negative, 250 moves X positive, the thresholds are strict. -/
theorem test_joystick_thresholds :
    joystickMove params 1000 700 = some (.x, true) ∧ joystickMove params 250 700 = some (.x, false) ∧
      joystickMove params 900 300 = none ∧ joystickMove params 300 901 = some (.y, true) ∧
      joystickMove params 900 299 = some (.y, false) ∧ joystickMove params 901 299 = some (.x, true) := by decide

/-- 10_state.md R31: an edge at the very tick of entry stays pending. -/
theorem test_edge_at_entry :
    let s := { interrupted [pressed] with limPrev := false }
    (after 1 s).limPend = true ∧ (after 1 s).lstate = .debounce := by decide

/-- A frame placed for the next tick runs from reset, whatever the parameters. -/
theorem test_placed_frame_runs :
    (after 1 (State.reset.withFetchWord 64 0x07A000000000030A)).pulseRem = 3 ∧
      (after 1 (State.reset.withFetchWord 64 0x07A000000000030A)).activeAxis = .z := by decide

/-! ### Witnesses: for each statement with hypotheses, concrete states that meet them, one for each clause -/

theorem witness_frames_decode :
    (Instr.rsvGoto01 .reserved true 0xF 0x7F 0xFFFFFFFF).wellFormed = true ∧
      decode [0x07, 0x00, 0x01, 0x0A] = .frame (.respUsed 1) ∧
      (rowOf (.respUsed 1)).selects [0x07, 0x00, 0x00, 0x0A] = true ∧
      (rowOf (.rsvGoto01 .x false 0 0x40 0)).selects [0x07, 0x00, 0x7F, 0x00, 0x00, 0x00, 0x00, 0x0A] = true := by decide

/-- The clauses of the verdict at the boundaries of the reserved range, `0x01` and `0xFE`. -/
theorem witness_verdict :
    decode [0x06, 0x01, 0x00, 0x00, 0x00, 0x00, 0x00, 0x0B] = .rejected .wrongStart ∧
      decode [0x07, 0x01, 0x00, 0x00, 0x00, 0x00, 0x00, 0x0B] = .rejected .wrongEnd ∧
      decode [0x07, 0x01, 0xFF, 0x00, 0x00, 0x00, 0x00, 0x0A] = .frame (.query .x false 0 0xFF 0) ∧
      decode [0x07, 0x00, 0xFF, 0x00, 0x00, 0x00, 0x00, 0x0A] = .frame (.gotolim .x false 0 0) ∧
      decode [0x07, 0x00, 0x00, 0x00, 0x00, 0x00, 0x00, 0x0A] = .frame (.move .x false 0 0) ∧
      decode [0x07, 0x00, 0x01, 0x00, 0x00, 0x00, 0x00, 0x0A] = .frame (.rsvGoto00000001 .x false 0 0x01 0) ∧
      decode [0x07, 0x00, 0xFE, 0x00, 0x00, 0x00, 0x00, 0x0A] = .frame (.rsvGoto11111110 .x false 0 0xFE 0) := by decide

theorem witness_reserved_forms :
    Instr.rsvGoto11111110 .x false 0 0xFE 2 ∈
      [Instr.rsvGoto01 .x false 0 0xFE 2, .rsvGoto10 .x false 0 0xFE 2, .rsvGoto001 .x false 0 0xFE 2,
        .rsvGoto0001 .x false 0 0xFE 2, .rsvGoto00001 .x false 0 0xFE 2, .rsvGoto000001 .x false 0 0xFE 2,
        .rsvGoto0000001 .x false 0 0xFE 2, .rsvGoto00000001 .x false 0 0xFE 2, .rsvGoto110 .x false 0 0xFE 2,
        .rsvGoto1110 .x false 0 0xFE 2, .rsvGoto11110 .x false 0 0xFE 2, .rsvGoto111110 .x false 0 0xFE 2,
        .rsvGoto1111110 .x false 0 0xFE 2, .rsvGoto11111110 .x false 0 0xFE 2] := by decide

/-- The four states that execute a frame, and `M_QRESP` without a query. -/
theorem witness_fetch :
    (executing 0x60 0x00 0x02 [calm]).Enabled ∧
      (executing 0x60 0x00 0x02 [calm]).fetch = some (.move .y true 0 2) ∧
      decode (executing 0x60 0x00 0x02 [calm]).buf.frame = .frame (.move .y true 0 2) ∧
      ({ executing 0x01 0x00 0x00 [calm] with mstate := .qresp, cmdPend := false, queryPend := true } : State).fetch =
        some (.query .x false 0 0x00 0) ∧
      ({ idle [calm] with mstate := .qresp } : State).fetch = some (.respUsed 0x00) ∧
      ({ idle [calm] with mstate := .boot } : State).fetch = some .respReset ∧
      ({ executing 0x60 0x00 0x02 [calm] with mstate := .resp, limitHit := true } : State).fetch = some .respLimit := by
  decide

theorem witness_fetch_executes :
    exec (.move .y true 0 2) (executing 0x60 0x00 0x02 [calm]) =
      .next ((executing 0x60 0x00 0x02 [calm]).startCommand .y true false 2) := rfl

theorem witness_reset : (bursting [{ calm with rst := true }]).input.rst = true := by decide

theorem witness_plain_tick :
    (bursting [pressed]).input.rst = false ∧ step (bursting [pressed]) = .next (after 1 (bursting [pressed])) :=
  ⟨by decide, rfl⟩

theorem witness_held_tick :
    (interrupted [pressed]).Held ∧ step (interrupted [pressed]) = .next (after 1 (interrupted [pressed])) :=
  ⟨by decide, rfl⟩

theorem witness_enabled_tick :
    (bursting [calm]).Enabled ∧ step (bursting [calm]) = .next (after 1 (bursting [calm])) ∧
      (after 1 (bursting [calm])).stepY ≠ (bursting [calm]).stepY :=
  ⟨by decide, rfl, by decide⟩

/-- The changes that `AgentsKeepToTheirElements` speaks of do happen. -/
theorem witness_writers :
    (after 1 { executing 0x00 0x00 0x00 [calm] with mstate := .cycleEnd, limitHit := true }).limitHit = false ∧
      (after 1 { bursting [calm] with keepPulsing := false }).keepPulsing = true ∧
      (after 1 (executing 0x20 0x00 0x00 [calm])).dirOut = true ∧
      (after 1 { interrupted [pressed] with lstate := .finish }).limitHit = true ∧
      (after 1 { interrupted [pressed] with lstate := .finish }).keepPulsing = false ∧
      (after 1 { interrupted [pressed] with lstate := .loop }).stepY = true ∧
      (after 1 { interrupted [pressed] with lstate := .check }).dirOut = false := by decide

/-- `M_POLL`: something pending, nothing offered, `0x07` offered, another byte offered. -/
theorem witness_poll :
    ({ idle [offer 0x07] with cmdPend := true } : State).Enabled ∧ (idle [calm]).Enabled ∧
      (idle [calm]).input.rxValid = false ∧ (idle [offer 0x07]).Enabled ∧ (idle [offer 0x07]).input.rxData = 0x07 ∧
      (idle [offer 0x08]).Enabled ∧ (idle [offer 0x08]).input.rxValid = true ∧ (idle [offer 0x08]).input.rxData ≠ 0x07 ∧
      (idle [calm]).mstate = .poll := by decide

/-- `M_COLLECT` at the first and the last index, with and without a byte. -/
theorem witness_collect :
    ({ idle [offer 0x07] with mstate := .collect } : State).Enabled ∧
      ({ idle [offer 0x0A] with mstate := .collect, rxIdx := 6 } : State).Enabled ∧
      ({ idle [offer 0x0A] with mstate := .collect, rxIdx := 6 } : State).input.rxValid = true ∧
      ({ idle [calm] with mstate := .collect } : State).input.rxValid = false ∧
      ({ idle [calm] with mstate := .collect, rxIdx := 6 } : State).rxIdx ≠ 7 := by decide

theorem witness_collect_seven :
    ({ idle [offer 0x0A] with mstate := .collect, rxIdx := 7 } : State).Enabled ∧
      ({ idle [offer 0x0A] with mstate := .collect, rxIdx := 7 } : State).input.rxValid = true ∧
      ({ idle [calm] with mstate := .collect, rxIdx := 7 } : State).Enabled ∧
      ({ idle [calm] with mstate := .collect, rxIdx := 7 } : State).input.rxValid = false := by decide

/-- `M_PARSE` with nothing pending: a command, a query, a wrong end. -/
theorem witness_parse :
    let s := fun c e => ({ idle [calm] with mstate := .parse, buf := ⟨c, 0, 0, 0, 0, 5, e⟩ } : State)
    (s 0x00 0x0A).Enabled ∧ (s 0x00 0x0A).cmdPend = false ∧ (s 0x00 0x0A).queryPend = false ∧
      (after 1 (s 0x00 0x0A)).cmdPend = true ∧ (after 1 (s 0x01 0x0A)).queryPend = true ∧
      (after 1 (s 0x01 0x0B)).queryPend = false ∧ (after 1 (s 0x00 0x0B)).cmdPend = false := by decide

/-- A frame whose payload comes with a gap and looks like a start. -/
def gapped : State :=
  idle ([offer 0x07, calm] ++ [0x07, 0x00, 0x00, 0x00, 0x00, 0x05, 0x0A].map offer ++ [calm])

theorem witness_capture :
    gapped.mstate = .poll ∧ gapped.cmdPend = false ∧ gapped.queryPend = false ∧ gapped.NoReset 10 ∧
      receivedBytes 10 gapped = 0x07 :: [0x07, 0x00, 0x00, 0x00, 0x00, 0x05, 0x0A] ∧
      ticks 10 gapped = .next (after 10 gapped) :=
  ⟨by decide, by decide, by decide, by decide, by decide, rfl⟩

/-- A cycle that takes a byte, one that takes none, one that takes eight. -/
theorem witness_cycle :
    let s := fun p => idle (p :: List.replicate 20 calm)
    let u := idle ([0x07, 0x00, 0x00, 0x00, 0x00, 0x00, 0x00, 0x0A].map offer ++ List.replicate 20 calm)
    (s (offer 0x41)).mainEn = true ∧ (s (offer 0x41)).NoReset 8 ∧ (after 8 (s (offer 0x41))).mstate = .poll ∧
      (∀ j < 8, 0 < j → (after j (s (offer 0x41))).mstate ≠ .poll) ∧
      (after 8 (s calm)).mstate = .poll ∧ (∀ j < 8, 0 < j → (after j (s calm)).mstate ≠ .poll) ∧
      (after 18 u).mstate = .poll ∧ (∀ j < 18, 0 < j → (after j u).mstate ≠ .poll) := by decide

theorem witness_cycle_runs :
    ticks 8 (idle (List.replicate 20 calm)) = .next (after 8 (idle (List.replicate 20 calm))) := rfl

/-- Enabled ticks of `M_DISPATCH`, `M_END`, `M_EXEC`, `M_RESP`, `M_BOOT`, `M_QRESP`, `M_TX` and `M_JOYREAD`. -/
theorem witness_enabled_states :
    ({ idle [calm] with mstate := .dispatch } : State).Enabled ∧ ({ idle [calm] with mstate := .cycleEnd } : State).Enabled ∧
      (executing 0x60 0xFF 0x02 [calm]).Enabled ∧ ({ executing 0x00 0x00 0x00 [calm] with mstate := .resp } : State).Enabled ∧
      ({ idle [calm] with mstate := .boot } : State).Enabled ∧
      ({ idle [calm] with mstate := .qresp, queryPend := true } : State).Enabled ∧
      ({ idle [calm] with mstate := .tx, txIdx := 3 } : State).Enabled ∧
      ({ idle [calm] with mstate := .tx, txIdx := 3 } : State).input.txReady = true ∧
      ({ idle [{ calm with txReady := false }] with mstate := .tx } : State).Enabled ∧
      ({ idle [{ calm with txReady := false }] with mstate := .tx } : State).input.txReady = false := by decide

theorem witness_joyread :
    let s := fun p => ({ idle [p] with mstate := .joyread } : State)
    (s calm).Enabled ∧ joystickMove (s calm).params (s calm).input.adcLr (s calm).input.adcUd = none ∧
      (s { calm with adcLr := 901 }).Enabled ∧
      joystickMove params (s { calm with adcLr := 901 }).input.adcLr 700 = some (.x, true) := by decide

/-- `M_PCHECK` with and without a pulse to start, and both phases at the boundary of their counter. -/
theorem witness_pulse :
    (bursting [calm]).Enabled ∧ (bursting [calm]).keepPulsing = true ∧ (bursting [calm]).pulseRem ≠ 0 ∧
      ({ bursting [calm] with pulseRem := 0 } : State).Enabled ∧
      ({ bursting [calm] with keepPulsing := false } : State).Enabled ∧
      ({ bursting [calm] with mstate := .phigh, mCnt := 2 } : State).Enabled ∧
      ({ bursting [calm] with mstate := .phigh, mCnt := 1 } : State).Enabled ∧
      ({ bursting [calm] with mstate := .plow, mCnt := 2 } : State).Enabled ∧
      ({ bursting [calm] with mstate := .plow, mCnt := 1 } : State).Enabled := by decide

/-- Two pulses with `PHASE_TICKS = 2`: 2 · 5 + 1 ticks. -/
theorem witness_burst :
    (bursting (List.replicate 12 calm)).Inv ∧ (bursting (List.replicate 12 calm)).keepPulsing = true ∧
      (bursting (List.replicate 12 calm)).NoReset 11 ∧ (bursting (List.replicate 12 calm)).LimitNoRise 11 :=
  ⟨inv_of _ (by decide), by decide, by decide, by decide⟩

/-- The bytes of a frame offered one a tick to a state between two cycles. -/
def offered (i : Instr) (k : Nat) : State :=
  idle ((encode i).map offer ++ List.replicate k calm)

/-- `MOVE Y - 1`: 5 + 18 ticks. -/
theorem witness_move_transaction :
    (offered (.move .y true 0xF 1) 16).keepPulsing = true ∧
      FrameOffered 23 (offered (.move .y true 0xF 1) 16) (encode (.move .y true 0xF 1)) :=
  ⟨by decide, inv_of _ (by decide), by decide, by decide, ⟨by decide, by decide, by decide⟩⟩

/-- With `keep_pulsing` left at 0 by an earlier activation of the handler (70_reset_and_hazards.md R274). -/
theorem witness_query_transaction :
    let s := { offered (.query .z true 0xF 0xFF 7) 16 with keepPulsing := false }
    FrameOffered 16 s (encode (.query .z true 0xF 0xFF 7)) ∧ (after 16 s).keepPulsing = false :=
  ⟨⟨inv_of _ (by decide), by decide, by decide, ⟨by decide, by decide, by decide⟩⟩, by decide⟩

/-- A reserved go-to-limit byte, one pulse: 5 + 8 ticks. -/
theorem witness_reserved_command :
    (executing 0x60 0xFE 0x01 (List.replicate 14 calm)).buf.frame = encode (reservedGoto .y true 0 0xFE 1) ∧
      CommandReady 13 (executing 0x60 0xFE 0x01 (List.replicate 14 calm)) :=
  ⟨by decide, inv_of _ (by decide), by decide, by decide, by decide, ⟨by decide, by decide, by decide⟩⟩

theorem witness_reserved_axis :
    (executing 0xE0 0xFF 0x01 (List.replicate 8 calm)).buf.ctrl.extractLsb' 6 2 = 3 ∧
      CommandReady 7 (executing 0xE0 0xFF 0x01 (List.replicate 8 calm)) :=
  ⟨by decide, inv_of _ (by decide), by decide, by decide, by decide, ⟨by decide, by decide, by decide⟩⟩

/-- A state with the same sample at each of the next `k` ticks reads that sample. -/
theorem inputAt_replicate (s : State) (k : Nat) (p : PortIn) (h : s.inputs = List.replicate k p) :
    ∀ j < k, s.inputAt j = p := by
  intro j hj
  simp [State.inputAt, h, hj]

/-- The environment keeps calm for as many ticks as a `GOTOLIM` without a limit event takes. -/
theorem witness_gotolim :
    ∃ s : State, s.buf.frame = encode (.gotolim .y true 0 2) ∧
      CommandReady (4294967295 * (2 * s.params.phaseTicks + 1) + 8) s := by
  refine ⟨executing 0x60 0xFF 0x02 (List.replicate (4294967295 * 5 + 8) calm), by decide, inv_of _ (by decide), rfl, rfl,
    rfl, ?_⟩
  have h : ∀ j < 4294967295 * 5 + 8,
      (executing 0x60 0xFF 0x02 (List.replicate (4294967295 * 5 + 8) calm)).inputAt j = calm :=
    inputAt_replicate _ _ _ rfl
  exact ⟨fun j hj => by rw [h j hj]; rfl, fun j hj => by rw [h j hj]; rfl, by decide, by decide, by decide,
    fun h0 => by rw [h 0 (by decide)] at h0; exact absurd h0 (by decide),
    fun j hj h1 => by
      have hk : j + 1 < 4294967295 * 5 + 8 := Nat.add_lt_of_lt_sub hj
      rw [h (j + 1) hk] at h1; exact absurd h1 (by decide)⟩

theorem witness_cleared_flag :
    let s := { executing 0x60 0x00 0x02 [calm, calm] with keepPulsing := false, limitHit := true }
    s.NoReset 2 ∧ s.mainEn = true ∧ (s.limS = true → s.limPrev = true) ∧ s.buf.ctrl.extractLsb' 6 2 ≠ 3 ∧
      s.cmdPend = true := by decide

/-- After a reset tick, with the limit input resting at 1. -/
theorem witness_boot : CalmFor 6 (State.resetTick (bursting (List.replicate 7 pressed))) :=
  ⟨by decide, by decide, by decide⟩

theorem witness_stream :
    (bursting (List.replicate 7 pressed)).params.Valid ∧ (State.resetTick (bursting (List.replicate 7 pressed))).NoReset 5 ∧
      ticks 5 (State.resetTick (bursting (List.replicate 7 pressed))) =
        .next (after 5 (State.resetTick (bursting (List.replicate 7 pressed)))) ∧
      sentBytes (trace 5 (State.resetTick (bursting (List.replicate 7 pressed)))) = [0x07, 0xFF, 0x00, 0x0A] :=
  ⟨by decide, by decide, rfl, by decide⟩

/-- The boundaries of the left-right decision, with the up-down channel on both of its sides. -/
theorem witness_thresholds :
    901 ≤ (901 : Sample).toNat ∧ (299 : Sample).toNat ≤ 299 ∧ 300 ≤ (300 : Sample).toNat ∧ (900 : Sample).toNat ≤ 900 := by
  decide

/-- A micro-move on Y: 2 · 2 + 4 ticks. -/
theorem witness_micro_move :
    let s := { idle ({ calm with adcUd := 299 } :: List.replicate 8 { calm with txReady := false }) with mstate := .joyread }
    s.Inv ∧ s.keepPulsing = true ∧ s.NoReset 8 ∧ s.LimitNoRise 8 ∧
      joystickMove s.params s.input.adcLr s.input.adcUd = some (.y, false) :=
  ⟨inv_of _ (by decide), by decide, by decide, by decide, by decide⟩

/-- An enabled `M_JOYWAIT` at both boundaries of its counter; with the delay, 3 + 2 ticks, and without it, 2 ticks. -/
theorem witness_delay :
    let s := fun j => ({ idle (List.replicate 6 calm) with mstate := .dispatch, joyPrev := j } : State)
    let w := fun n => ({ idle [calm] with mstate := .joywait, mCnt := n } : State)
    (w 1).Enabled ∧ (w 1).mCnt ≠ 0 ∧ (w 0).Enabled ∧ (w 0).mCnt = 0 ∧
      (s false).cmdPend = false ∧ (s false).queryPend = false ∧ (s false).NoReset 5 ∧ (s false).LimitNoRise 5 ∧
      (s true).NoReset 2 ∧ (s true).LimitNoRise 2 := by decide

/-- The states of the handler, each with both of its cases. -/
theorem witness_handler :
    let s := fun l n => ({ interrupted [pressed] with lstate := l, limPend := false, lCnt := n } : State)
    (interrupted [pressed]).input.rst = false ∧ (interrupted [pressed]).lstate = .idle ∧
      (interrupted [pressed]).limPend = true ∧ (s .debounce 1).lCnt ≠ 0 ∧ (s .debounce 0).lCnt = 0 ∧
      (s .check 0).limS = true ∧ (s .check 0).cmdPend = true ∧ ({ s .check 0 with limS := false } : State).limS = false ∧
      (s .finish 0).input.rst = false ∧ (s .loop 0).limS = true ∧ 1 < (s .high 2).lCnt ∧ (s .high 1).lCnt ≤ 1 ∧
      1 < (s .low 2).lCnt ∧ (s .low 1).lCnt ≤ 1 := by decide

theorem witness_edge_outside :
    let s := { idle (List.replicate 5 pressed) with limPend := true }
    s.NoReset 4 ∧ s.lstate = .idle ∧ s.cmdPend = false ∧ s.params.debounceTicks + 3 = 4 := by decide

theorem witness_held_limit :
    let s := { interrupted (List.replicate 20 pressed) with lstate := .loop }
    s.NoReset 20 ∧ s.LimitHeld 20 ∧ (s.lstate = .loop ∨ s.lstate = .high ∨ s.lstate = .low) := by decide

/-- The axis rests on the switch when the burst begins. -/
theorem witness_no_rise :
    let s := { bursting (List.replicate 4 pressed) with limMeta := true, limS := true, limPrev := true }
    s.NoReset 4 ∧ s.LimitNoRise 4 ∧ 3 ≤ 4 ∧ ticks 3 s = .next (after 3 s) :=
  ⟨by decide, by decide, by decide, rfl⟩

/-- One activation with one retreat pair: 1 + 3 + 5 + 2 ticks; and one in which the input has bounced back. -/
theorem witness_activation :
    let s := interrupted (List.replicate 4 pressed ++ List.replicate 10 calm)
    let u := interrupted (List.replicate 14 calm)
    s.params.Valid ∧ s.NoReset 11 ∧ s.lstate = .idle ∧ s.limPend = true ∧ s.activeAxis ≠ .reserved ∧
      (after 11 s).lstate = .idle ∧ (∀ j < 11, 0 < j → (after j s).lstate ≠ .idle) ∧ (after 3 s).limS = true ∧
      edges .y true (trace 11 s) = 1 ∧
      u.NoReset 4 ∧ (after 4 u).lstate = .idle ∧ (∀ j < 4, 0 < j → (after j u).lstate ≠ .idle) ∧
      (after 3 u).limS = false := by decide

theorem witness_activation_runs :
    ticks 11 (interrupted (List.replicate 4 pressed ++ List.replicate 10 calm)) =
      .next (after 11 (interrupted (List.replicate 4 pressed ++ List.replicate 10 calm))) := rfl

/-- An edge at the tick on which the handler returns. -/
theorem witness_second_edge :
    let s := { interrupted [pressed, pressed] with lstate := .finish, limPrev := false, limPend := false }
    s.input.rst = false ∧ s.lstate ≠ .idle ∧ step s = .next (after 1 s) ∧ (after 1 s).input.rst = false ∧
      (after 1 s).lstate = .idle ∧ (after 1 s).limPend = true :=
  ⟨by decide, by decide, rfl, by decide, by decide, by decide⟩

theorem witness_rise :
    let s := bursting (List.replicate 5 pressed)
    s.Inv ∧ s.NoReset 4 ∧ s.mainEn = true ∧ s.limMeta = false ∧ s.limS = false ∧ s.input.limitIn = true :=
  ⟨inv_of _ (by decide), by decide, by decide, by decide, by decide, by decide⟩

theorem witness_limit_hit :
    let s := { bursting (List.replicate 8 calm) with limitHit := true, keepPulsing := false }
    s.mstate = .pcheck ∧ s.cmdPend = true ∧ CalmFor 7 s :=
  ⟨by decide, by decide, ⟨by decide, by decide, by decide⟩⟩

theorem witness_invariant :
    (bursting [pressed]).Inv ∧ step (bursting [pressed]) = .next (after 1 (bursting [pressed])) :=
  ⟨inv_of _ (by decide), rfl⟩

theorem witness_ignored_bits :
    (0x7E : Byte) &&& 0xE1 = (executing 0x60 0x00 0x02 [calm]).buf.ctrl &&& 0xE1 := by decide

theorem witness_query_pending :
    let s := ({ idle [calm] with mstate := .dispatch, queryPend := true } : State)
    s.mstate = .dispatch ∧ s.cmdPend = false ∧ s.queryPend = true := by decide

end Sys2Proof.Tests
end

/-! What one tick of each agent can do, said once: a relation with one case per branch of the agent's rules, each case with
its guard and its next state as a record. Every later proof about a tick is a case split on it. -/

namespace Sys2Proof.Machine

/-! ### The step outputs -/

/-- `StepWrite(active_axis, v)` as one record, so that each other element is seen to be unchanged (10_state.md R27). -/
def State.driveStep (s : State) (v : Bool) : State :=
  { s with
    stepX := if s.activeAxis = .x then v else s.stepX
    stepY := if s.activeAxis = .y then v else s.stepY
    stepZ := if s.activeAxis = .z then v else s.stepZ }

theorem State.stepWrite_active (s : State) (v : Bool) : s.stepWrite s.activeAxis v = s.driveStep v :=
  s.stepWrite_eq s.activeAxis v

theorem State.stepOf_driveStep (s : State) (v : Bool) (b : Axis) :
    (s.driveStep v).stepOf b = if b = s.activeAxis ∧ s.activeAxis ≠ .reserved then v else s.stepOf b := by
  rw [← State.stepWrite_active, State.stepOf_stepWrite]

/-- Two states with the same three step registers read the same on every axis. -/
theorem State.stepOf_congr {s t : State} (hx : t.stepX = s.stepX) (hy : t.stepY = s.stepY) (hz : t.stepZ = s.stepZ)
    (a : Axis) : t.stepOf a = s.stepOf a := by
  cases a
  · exact hx
  · exact hy
  · exact hz
  · rfl

/-! ### The rules of PULSE, branch by branch -/

section Pulse
variable {s : State}

theorem State.pcheckRule_start (hk : s.keepPulsing = true) (hr : s.pulseRem ≠ 0) :
    s.pcheckRule = { s.driveStep true with mCnt := s.params.phaseTicks, mstate := .phigh } := by
  rw [State.pcheckRule, if_pos ⟨hk, hr⟩, State.stepWrite_active]

theorem State.pcheckRule_leave (h : s.keepPulsing = false ∨ s.pulseRem = 0) :
    s.pcheckRule = { s with keepPulsing := true, mstate := if s.cmdPend then .resp else .cycleEnd } := by
  have hn : ¬(s.keepPulsing = true ∧ s.pulseRem ≠ 0) := by
    rintro ⟨hk, hr⟩
    rcases h with h | h
    · simp [hk] at h
    · exact hr h
  rw [State.pcheckRule, if_neg hn]
  rfl

theorem State.phighRule_wait (hc : 1 < s.mCnt) : s.phighRule = { s with mCnt := s.mCnt - 1 } :=
  if_pos hc

theorem State.phighRule_end (hc : s.mCnt ≤ 1) :
    s.phighRule = { s.driveStep false with mCnt := s.params.phaseTicks, mstate := .plow } := by
  rw [State.phighRule, if_neg (Nat.not_lt.2 hc), State.stepWrite_active]

theorem State.plowRule_wait (hc : 1 < s.mCnt) : s.plowRule = { s with mCnt := s.mCnt - 1 } :=
  if_pos hc

theorem State.plowRule_end (hc : s.mCnt ≤ 1) :
    s.plowRule = { s with pulseRem := s.pulseRem - 1, mstate := .pcheck } :=
  if_neg (Nat.not_lt.2 hc)

end Pulse

/-! ### MAIN -/

/-- A micro-move is on one of the two joystick axes (42_joystick_controller.md R165 to R167). -/
theorem joystickMove_axis {q : Params} {lr ud : Sample} {a : Axis} {d : Bool} (h : joystickMove q lr ud = some (a, d)) :
    a = .x ∨ a = .y := by
  unfold joystickMove at h
  split at h
  · cases h; exact .inl rfl
  · obtain ⟨_, _, he⟩ := Option.map_eq_some_iff.1 h
    cases he; exact .inr rfl

/-- `MainMove p s t`: at the port sample `p`, MAIN's rule can take `s` to `t` (44_control_loop.md R206). -/
inductive MainMove (p : PortIn) (s : State) : State → Prop
  | boot (hm : s.mstate = .boot) : MainMove p s (s.buildFrame 0xFF 0x00)
  | pollPass (hm : s.mstate = .poll)
      (h : s.cmdPend = true ∨ s.queryPend = true ∨ ¬(p.rxValid = true ∧ p.rxData = startByte)) :
      MainMove p s { s with mstate := .dispatch }
  | pollStart (hm : s.mstate = .poll) (hc : s.cmdPend = false) (hq : s.queryPend = false) (hv : p.rxValid = true)
      (hd : p.rxData = startByte) : MainMove p s { s with rxIdx := 0, mstate := .collect }
  | collectWait (hm : s.mstate = .collect) (hv : p.rxValid = false) : MainMove p s s
  | collectByte {b : Payload} (hm : s.mstate = .collect) (hv : p.rxValid = true)
      (hw : s.buf.write s.rxIdx p.rxData = some b) (hi : s.rxIdx ≠ 6) :
      MainMove p s { s with buf := b, rxIdx := s.rxIdx + 1 }
  | collectLast {b : Payload} (hm : s.mstate = .collect) (hv : p.rxValid = true)
      (hw : s.buf.write s.rxIdx p.rxData = some b) (hi : s.rxIdx = 6) :
      MainMove p s { s with buf := b, mstate := .parse }
  | parseQuery (hm : s.mstate = .parse) (he : s.buf.last = endByte) (hq : ctrlQuery s.buf.ctrl = true) :
      MainMove p s { s with queryPend := true, mstate := .dispatch }
  | parseCommand (hm : s.mstate = .parse) (he : s.buf.last = endByte) (hq : ctrlQuery s.buf.ctrl = false) :
      MainMove p s { s with cmdPend := true, mstate := .dispatch }
  | parseDrop (hm : s.mstate = .parse) (he : s.buf.last ≠ endByte) : MainMove p s { s with mstate := .dispatch }
  | dispatchCommand (hm : s.mstate = .dispatch) (hc : s.cmdPend = true) : MainMove p s { s with mstate := .exec }
  | dispatchQuery (hm : s.mstate = .dispatch) (hc : s.cmdPend = false) (hq : s.queryPend = true) :
      MainMove p s { s with mstate := .qresp }
  | dispatchJoystick (hm : s.mstate = .dispatch) (hc : s.cmdPend = false) (hq : s.queryPend = false) :
      MainMove p s { s with mCnt := if s.joyPrev then 0 else s.params.joyDelayTicks, mstate := .joywait }
  | exec (hm : s.mstate = .exec) :
      MainMove p s (s.startCommand (ctrlAxis s.buf.ctrl) (ctrlDir s.buf.ctrl) s.buf.gotoMode s.buf.count)
  | pcheckStart (hm : s.mstate = .pcheck) (hk : s.keepPulsing = true) (hr : s.pulseRem ≠ 0) :
      MainMove p s { s.driveStep true with mCnt := s.params.phaseTicks, mstate := .phigh }
  | pcheckLeave (hm : s.mstate = .pcheck) (h : s.keepPulsing = false ∨ s.pulseRem = 0) :
      MainMove p s { s with keepPulsing := true, mstate := if s.cmdPend then .resp else .cycleEnd }
  | phighWait (hm : s.mstate = .phigh) (hc : 1 < s.mCnt) : MainMove p s { s with mCnt := s.mCnt - 1 }
  | phighEnd (hm : s.mstate = .phigh) (hc : s.mCnt ≤ 1) :
      MainMove p s { s.driveStep false with mCnt := s.params.phaseTicks, mstate := .plow }
  | plowWait (hm : s.mstate = .plow) (hc : 1 < s.mCnt) : MainMove p s { s with mCnt := s.mCnt - 1 }
  | plowEnd (hm : s.mstate = .plow) (hc : s.mCnt ≤ 1) :
      MainMove p s { s with pulseRem := s.pulseRem - 1, mstate := .pcheck }
  | resp (hm : s.mstate = .resp) :
      MainMove p s (s.buildFrame (if s.limitHit && !s.gotoLimit then 0x0F else 0xF0) 0x00)
  | qresp (hm : s.mstate = .qresp) : MainMove p s (s.replyUsed (usedByte s.remoteUsed))
  | txWait (hm : s.mstate = .tx) (hr : p.txReady = false) : MainMove p s s
  | txByte (hm : s.mstate = .tx) (hr : p.txReady = true) (hi : s.txIdx ≠ 3) :
      MainMove p s { s with txIdx := s.txIdx + 1 }
  | txLast (hm : s.mstate = .tx) (hr : p.txReady = true) (hi : s.txIdx = 3) :
      MainMove p s { s with mstate := .cycleEnd }
  | joywaitCount (hm : s.mstate = .joywait) (hc : s.mCnt ≠ 0) : MainMove p s { s with mCnt := s.mCnt - 1 }
  | joywaitDone (hm : s.mstate = .joywait) (hc : s.mCnt = 0) : MainMove p s { s with mstate := .joyread }
  | joyreadMove {a : Axis} {d : Bool} (hm : s.mstate = .joyread)
      (hj : joystickMove s.params p.adcLr p.adcUd = some (a, d)) :
      MainMove p s { s with
        dirOut := d, activeAxis := a, activeDir := d, pulseRem := 1, joyNow := true, remoteUsed := true,
        mstate := .pcheck }
  | joyreadNone (hm : s.mstate = .joyread) (hj : joystickMove s.params p.adcLr p.adcUd = none) :
      MainMove p s { s with mstate := .cycleEnd }
  | cycleEnd (hm : s.mstate = .cycleEnd) : MainMove p s { s.clearCycleFlags with mstate := .poll }

namespace MainMove
variable {p : PortIn} {s t : State}

theorem of_pollRule (hm : s.mstate = .poll) : MainMove p s (s.pollRule p) := by
  unfold State.pollRule
  split
  · next h =>
    refine .pollPass hm ?_
    rcases Bool.or_eq_true_iff.1 h with h | h
    · exact .inl h
    · exact .inr (.inl h)
  · next h =>
    obtain ⟨hc, hq⟩ := Bool.or_eq_false_iff.1 (Bool.eq_false_iff.2 h)
    split
    · next hv =>
      split
      · next hd => exact .pollStart hm hc hq hv hd
      · next hd => exact .pollPass hm (.inr (.inr fun h => hd h.2))
    · next hv => exact .pollPass hm (.inr (.inr fun h => hv h.1))

theorem of_collectRule (hm : s.mstate = .collect) (h : collectRule s p = .next t) : MainMove p s t := by
  rcases collectRule_cases h with ⟨hv, rfl⟩ | ⟨hv, b, hw, ⟨hi, rfl⟩ | ⟨hi, rfl⟩⟩
  · exact .collectWait hm hv
  · exact .collectLast hm hv hw hi
  · exact .collectByte hm hv hw hi

theorem of_parseRule (hm : s.mstate = .parse) : MainMove p s s.parseRule := by
  unfold State.parseRule State.setPending
  split
  · next he =>
    split
    · next hq => exact .parseQuery hm he hq
    · next hq => exact .parseCommand hm he (Bool.eq_false_iff.2 hq)
  · next he => exact .parseDrop hm he

theorem of_dispatchRule (hm : s.mstate = .dispatch) : MainMove p s s.dispatchRule := by
  unfold State.dispatchRule
  split
  · next hc => exact .dispatchCommand hm hc
  · next hc =>
    split
    · next hq => exact .dispatchQuery hm (Bool.eq_false_iff.2 hc) hq
    · next hq => exact .dispatchJoystick hm (Bool.eq_false_iff.2 hc) (Bool.eq_false_iff.2 hq)

theorem of_pcheckRule (hm : s.mstate = .pcheck) : MainMove p s s.pcheckRule := by
  by_cases hr : s.pulseRem = 0
  · rw [State.pcheckRule_leave (.inr hr)]
    exact .pcheckLeave hm (.inr hr)
  · cases hk : s.keepPulsing with
    | false =>
      rw [State.pcheckRule_leave (.inl hk)]
      exact .pcheckLeave hm (.inl hk)
    | true =>
      rw [State.pcheckRule_start hk hr]
      exact .pcheckStart hm hk hr

theorem of_phighRule (hm : s.mstate = .phigh) : MainMove p s s.phighRule := by
  rcases Nat.lt_or_ge 1 s.mCnt with hc | hc
  · rw [State.phighRule_wait hc]
    exact .phighWait hm hc
  · rw [State.phighRule_end hc]
    exact .phighEnd hm hc

theorem of_plowRule (hm : s.mstate = .plow) : MainMove p s s.plowRule := by
  rcases Nat.lt_or_ge 1 s.mCnt with hc | hc
  · rw [State.plowRule_wait hc]
    exact .plowWait hm hc
  · rw [State.plowRule_end hc]
    exact .plowEnd hm hc

theorem of_txRule (hm : s.mstate = .tx) : MainMove p s (s.txRule p) := by
  unfold State.txRule
  split
  · next hr =>
    split
    · next hi => exact .txLast hm hr hi
    · next hi => exact .txByte hm hr hi
  · next hr => exact .txWait hm (Bool.eq_false_iff.2 hr)

theorem of_joywaitRule (hm : s.mstate = .joywait) : MainMove p s s.joywaitRule := by
  unfold State.joywaitRule
  split
  · next hc => exact .joywaitCount hm hc
  · next hc => exact .joywaitDone hm (not_not.1 hc)

theorem of_joyreadRule (hm : s.mstate = .joyread) : MainMove p s (s.joyreadRule p) := by
  unfold State.joyreadRule
  split
  · next a d hj => exact .joyreadMove hm hj
  · next hj => exact .joyreadNone hm hj

/-- What MAIN's rule answers is one of its moves. -/
theorem of_mainRule (h : mainRule p s = .next t) : MainMove p s t := by
  cases hm : s.mstate with
  | boot => cases (mainRule_boot hm).symm.trans h; exact .boot hm
  | poll => cases (mainRule_poll hm).symm.trans h; exact of_pollRule hm
  | collect => exact of_collectRule hm ((mainRule_collect hm).symm.trans h)
  | parse => cases (mainRule_parse hm).symm.trans h; exact of_parseRule hm
  | dispatch => cases (mainRule_dispatch hm).symm.trans h; exact of_dispatchRule hm
  | exec => cases (mainRule_exec hm).symm.trans h; exact .exec hm
  | pcheck => cases (mainRule_pcheck hm).symm.trans h; exact of_pcheckRule hm
  | phigh => cases (mainRule_phigh hm).symm.trans h; exact of_phighRule hm
  | plow => cases (mainRule_plow hm).symm.trans h; exact of_plowRule hm
  | resp => cases (mainRule_resp hm).symm.trans h; exact .resp hm
  | qresp => cases (mainRule_qresp hm).symm.trans h; exact .qresp hm
  | tx => cases (mainRule_tx hm).symm.trans h; exact of_txRule hm
  | joywait => cases (mainRule_joywait hm).symm.trans h; exact of_joywaitRule hm
  | joyread => cases (mainRule_joyread hm).symm.trans h; exact of_joyreadRule hm
  | cycleEnd => cases (mainRule_cycleEnd hm).symm.trans h; exact .cycleEnd hm

end MainMove

/-! ### LSM -/

/-- `LsmMove s t`: LSM's rule takes `s` to `t` (60_exceptions.md R225 to R233). -/
inductive LsmMove (s : State) : State → Prop
  | rest (hl : s.lstate = .idle) (hp : s.limPend = false) : LsmMove s s
  | take (hl : s.lstate = .idle) (hp : s.limPend = true) :
      LsmMove s { s with lCnt := s.params.debounceTicks, lstate := .debounce }
  | debounceCount (hl : s.lstate = .debounce) (hc : s.lCnt ≠ 0) : LsmMove s { s with lCnt := s.lCnt - 1 }
  | debounceDone (hl : s.lstate = .debounce) (hc : s.lCnt = 0) : LsmMove s { s with lstate := .check }
  | checkReverse (hl : s.lstate = .check) (hi : s.limS = true) (hc : s.cmdPend = true) :
      LsmMove s { s with dirOut := !s.activeDir, lstate := .loop }
  | checkLeave (hl : s.lstate = .check) (h : ¬(s.limS = true ∧ s.cmdPend = true)) :
      LsmMove s { s with lstate := .idle }
  | loopPulse (hl : s.lstate = .loop) (hi : s.limS = true) :
      LsmMove s { s.driveStep true with lCnt := s.params.phaseTicks, lstate := .high }
  | loopDone (hl : s.lstate = .loop) (hi : s.limS = false) : LsmMove s { s with lstate := .finish }
  | highWait (hl : s.lstate = .high) (hc : 1 < s.lCnt) : LsmMove s { s with lCnt := s.lCnt - 1 }
  | highEnd (hl : s.lstate = .high) (hc : s.lCnt ≤ 1) :
      LsmMove s { s.driveStep false with lCnt := s.params.phaseTicks, lstate := .low }
  | lowWait (hl : s.lstate = .low) (hc : 1 < s.lCnt) : LsmMove s { s with lCnt := s.lCnt - 1 }
  | lowEnd (hl : s.lstate = .low) (hc : s.lCnt ≤ 1) : LsmMove s { s with lstate := .loop }
  | finish (hl : s.lstate = .finish) : LsmMove s { s with limitHit := true, keepPulsing := false, lstate := .idle }

namespace LsmMove
variable {s t : State}

theorem of_lIdleRule (hl : s.lstate = .idle) : LsmMove s s.lIdleRule := by
  unfold State.lIdleRule
  split
  · next hp => exact .take hl hp
  · next hp => exact .rest hl (Bool.eq_false_iff.2 hp)

theorem of_lDebounceRule (hl : s.lstate = .debounce) : LsmMove s s.lDebounceRule := by
  unfold State.lDebounceRule
  split
  · next hc => exact .debounceCount hl hc
  · next hc => exact .debounceDone hl (not_not.1 hc)

theorem of_lCheckRule (hl : s.lstate = .check) : LsmMove s s.lCheckRule := by
  unfold State.lCheckRule
  split
  · next h =>
    obtain ⟨hi, hc⟩ := Bool.and_eq_true_iff.1 h
    exact .checkReverse hl hi hc
  · next h => exact .checkLeave hl fun hn => h (Bool.and_eq_true_iff.2 hn)

theorem of_lLoopRule (hl : s.lstate = .loop) : LsmMove s s.lLoopRule := by
  unfold State.lLoopRule
  split
  · next hi =>
    rw [State.stepWrite_active]
    exact .loopPulse hl hi
  · next hi => exact .loopDone hl (Bool.eq_false_iff.2 hi)

theorem of_lHighRule (hl : s.lstate = .high) : LsmMove s s.lHighRule := by
  unfold State.lHighRule
  split
  · next hc => exact .highWait hl hc
  · next hc =>
    rw [State.stepWrite_active]
    exact .highEnd hl (Nat.not_lt.1 hc)

theorem of_lLowRule (hl : s.lstate = .low) : LsmMove s s.lLowRule := by
  unfold State.lLowRule
  split
  · next hc => exact .lowWait hl hc
  · next hc => exact .lowEnd hl (Nat.not_lt.1 hc)

/-- What LSM's rule makes of a state is one of its moves. -/
theorem of_lsmRule (s : State) : LsmMove s s.lsmRule := by
  unfold State.lsmRule
  split
  · next hl => exact of_lIdleRule hl
  · next hl => exact of_lDebounceRule hl
  · next hl => exact of_lCheckRule hl
  · next hl => exact of_lLoopRule hl
  · next hl => exact of_lHighRule hl
  · next hl => exact of_lLowRule hl
  · next hl => exact .finish hl

end LsmMove

/-! ### A tick -/

/-- At an enabled tick the next state is a move of MAIN with the latch around it. -/
theorem step_mainMove {s s' : State} (he : s.Enabled) (h : step s = .next s') :
    ∃ t, MainMove s.input s t ∧ s' = s.latch s.input t := by
  obtain ⟨hr, hen⟩ := he
  rcases step_cases h with ⟨hr', _⟩ | ⟨_, _, t, hm, rfl⟩ | ⟨_, hen', _⟩
  · simp [hr] at hr'
  · exact ⟨t, .of_mainRule hm, rfl⟩
  · simp [hen] at hen'

/-- At a held tick the next state is a move of LSM with the latch around it. -/
theorem step_lsmMove {s s' : State} (hh : s.Held) (h : step s = .next s') :
    ∃ t, LsmMove s t ∧ s' = s.latch s.input t := by
  obtain ⟨hr, hen⟩ := hh
  rw [step_of_held s hr hen] at h
  cases h
  exact ⟨s.lsmRule, .of_lsmRule s, rfl⟩

/-- At every tick without reset the latch stands around what the agents do. -/
theorem step_latch {s s' : State} (hr : s.input.rst = false) (h : step s = .next s') :
    ∃ t, s' = s.latch s.input t := by
  cases hen : s.mainEn with
  | true =>
    obtain ⟨t, _, ht⟩ := step_mainMove ⟨hr, hen⟩ h
    exact ⟨t, ht⟩
  | false =>
    obtain ⟨t, _, ht⟩ := step_lsmMove ⟨hr, hen⟩ h
    exact ⟨t, ht⟩

end Sys2Proof.Machine

/-! The invariant of the block, taken apart by what a move of an agent can touch, and kept by every move. MAIN's moves change
`mstate`, on which half of the invariant depends, so that half is said once more as a table: what holds of the flags in each
state of MAIN. LSM's moves leave it alone. -/

namespace Sys2Proof.Machine

/-! ### The invariant in parts -/

/-- The part of the invariant that speaks neither of MAIN's nor of LSM's state. -/
structure State.BaseInv (s : State) : Prop where
  params_valid : s.params.Valid
  rx_index : s.rxIdx ≠ 7
  main_counter : s.mCnt ≤ s.params.timerMax
  limit_counter : s.lCnt ≤ s.params.timerMax
  one_pending : ¬(s.cmdPend = true ∧ s.queryPend = true)
  goto_command : s.gotoLimit = true → s.cmdPend = true
  limit_command : s.limitHit = true → s.cmdPend = true
  joystick_alone : s.joyNow = true → s.cmdPend = false ∧ s.queryPend = false ∧ s.remoteUsed = true

/-- What a burst needs: no query, one of the three axes, and a caller (44_control_loop.md R207). -/
def State.BurstReady (s : State) : Prop :=
  s.queryPend = false ∧ s.activeAxis ≠ .reserved ∧ (s.cmdPend = true ∨ s.joyNow = true)

/-- What the invariant says of the flags and of the burst when MAIN is at the given state (44_control_loop.md R207). -/
def State.CycleAt (s : State) : MState → Prop
  | .boot | .poll | .collect | .parse | .joywait | .joyread =>
    s.cmdPend = false ∧ s.queryPend = false ∧ s.joyNow = false
  | .dispatch | .tx => s.joyNow = false
  | .exec | .resp => s.cmdPend = true
  | .qresp => s.queryPend = true
  | .pcheck => s.BurstReady
  | .phigh | .plow => s.BurstReady ∧ s.pulseRem ≠ 0
  | .cycleEnd => True

/-- A step output at 1 is the active axis's, inside a high phase (10_state.md R26). -/
def State.StepsFit (s : State) : Prop :=
  ∀ a, s.stepOf a = true → a = s.activeAxis ∧ (s.mstate = .phigh ∨ s.lstate = .high)

section Parts
variable {s t : State}

theorem State.Inv.base (h : s.Inv) : s.BaseInv :=
  { h with joystick_alone := fun hj => (h.joystick_cycle hj).2 }

/-- With something pending, no micro-move is under way. -/
theorem State.BaseInv.joyNow_eq_false (h : s.BaseInv) (hp : s.cmdPend = true ∨ s.queryPend = true) :
    s.joyNow = false := by
  refine Bool.eq_false_iff.2 fun hj => ?_
  obtain ⟨hc, hq, _⟩ := h.joystick_alone hj
  rcases hp with hp | hp
  · simp [hc] at hp
  · simp [hq] at hp

theorem State.BaseInv.queryPend_eq_false (h : s.BaseInv) (hc : s.cmdPend = true) : s.queryPend = false :=
  Bool.eq_false_iff.2 fun hq => h.one_pending ⟨hc, hq⟩

/-- Outside a burst and the end of the cycle no micro-move is under way. -/
theorem State.Inv.joyNow_eq_false (h : s.Inv) (hb : s.mstate.inBurst = false) (he : s.mstate ≠ .cycleEnd) :
    s.joyNow = false := by
  refine Bool.eq_false_iff.2 fun hj => ?_
  rcases (h.joystick_cycle hj).1 with hm | hm
  · simp [hb] at hm
  · exact he hm

theorem State.Inv.burstReady (h : s.Inv) (hb : s.mstate.inBurst = true) : s.BurstReady :=
  ⟨h.burst_no_query hb, h.burst_axis hb, h.burst_caller hb⟩

/-- The table holds of the state MAIN is at. -/
theorem State.Inv.cycleAt (h : s.Inv) {m : MState} (hm : s.mstate = m) : s.CycleAt m := by
  subst hm
  have hquiet (hn : s.mstate.nothingPending = true) (hb : s.mstate.inBurst = false) (he : s.mstate ≠ .cycleEnd) :
      s.cmdPend = false ∧ s.queryPend = false ∧ s.joyNow = false :=
    ⟨(h.none_pending hn).1, (h.none_pending hn).2, h.joyNow_eq_false hb he⟩
  cases hm : s.mstate <;> simp only [hm] at hquiet
  case boot | poll | collect | parse | joywait | joyread => exact hquiet rfl rfl nofun
  case dispatch | tx => exact h.joyNow_eq_false (by rw [hm]; rfl) (by rw [hm]; nofun)
  case exec => exact h.command_states (.inl hm)
  case resp => exact h.command_states (.inr hm)
  case qresp => exact h.query_state hm
  case pcheck => exact h.burstReady (by rw [hm]; rfl)
  case phigh => exact ⟨h.burstReady (by rw [hm]; rfl), h.pulse_started (.inl hm)⟩
  case plow => exact ⟨h.burstReady (by rw [hm]; rfl), h.pulse_started (.inr hm)⟩
  case cycleEnd => trivial

/-! ### What the table says of the invariant's own clauses -/

theorem State.CycleAt.none_pending {m : MState} (hc : s.CycleAt m) (hn : m.nothingPending = true) :
    s.cmdPend = false ∧ s.queryPend = false := by
  cases m
  case boot | poll | collect | parse | joywait | joyread => exact ⟨hc.1, hc.2.1⟩
  all_goals simp [MState.nothingPending] at hn

theorem State.CycleAt.burst {m : MState} (hc : s.CycleAt m) (hb : m.inBurst = true) : s.BurstReady := by
  cases m
  case pcheck => exact hc
  case phigh | plow => exact hc.1
  all_goals simp [MState.inBurst] at hb

/-- A micro-move is at a burst or at the end of its cycle. -/
theorem State.CycleAt.joystick {m : MState} (hc : s.CycleAt m) (hb : s.BaseInv) (hj : s.joyNow = true) :
    m.inBurst = true ∨ m = .cycleEnd := by
  obtain ⟨hcmd, hquery, _⟩ := hb.joystick_alone hj
  cases m
  case pcheck | phigh | plow => exact .inl rfl
  case cycleEnd => exact .inr rfl
  case dispatch | tx => exact absurd hj (Bool.eq_false_iff.1 hc)
  case exec | resp => exact absurd hc (Bool.eq_false_iff.1 hcmd)
  case qresp => exact absurd hc (Bool.eq_false_iff.1 hquery)
  all_goals exact absurd hj (Bool.eq_false_iff.1 hc.2.2)

/-- The parts make the invariant. -/
theorem State.inv_of_parts (hb : s.BaseInv) (hc : s.CycleAt s.mstate) (hs : s.StepsFit)
    (ha : s.lstate.acting = true → s.cmdPend = true ∧ s.dirOut = !s.activeDir)
    (hf : s.mstate ≠ .boot → s.txBuf.bytes ∈ emittedFrames) : s.Inv :=
  { hb with
    none_pending := hc.none_pending
    command_states := by rintro (hm | hm) <;> rw [hm] at hc <;> exact hc
    query_state := fun hm => by rw [hm] at hc; exact hc
    burst_no_query := fun hm => (hc.burst hm).1
    burst_axis := fun hm => (hc.burst hm).2.1
    pulse_started := by rintro (hm | hm) <;> rw [hm] at hc <;> exact hc.2
    step_high := hs
    acting_handler := ha
    joystick_cycle := fun hj => ⟨hc.joystick hb hj, hb.joystick_alone hj⟩
    burst_caller := fun hm => (hc.burst hm).2.2
    frame_legal := hf }

/-! ### LSM's moves keep the invariant -/

theorem phaseTicks_le_timerMax (q : Params) : q.phaseTicks ≤ q.timerMax :=
  le_max_left _ _

theorem debounceTicks_le_timerMax (q : Params) : q.debounceTicks ≤ q.timerMax :=
  (le_max_left _ _).trans (le_max_right _ _)

theorem joyDelayTicks_le_timerMax (q : Params) : q.joyDelayTicks ≤ q.timerMax :=
  (le_max_right _ _).trans (le_max_right _ _)

/-- A state in no high phase has all step outputs at 0. -/
theorem State.Inv.stepOf_ne_true (h : s.Inv) (hm : s.mstate ≠ .phigh) (hl : s.lstate ≠ .high) (a : Axis) :
    s.stepOf a ≠ true := by
  intro ha
  rcases (h.step_high a ha).2 with hp | hp
  · exact hm hp
  · exact hl hp

/-- Raising the active step register leaves no other axis's at 1. -/
theorem State.Inv.axis_of_raised (h : s.Inv) {a : Axis} (ha : (s.driveStep true).stepOf a = true) : a = s.activeAxis := by
  rw [State.stepOf_driveStep] at ha
  split at ha
  · next hax => exact hax.1
  · exact (h.step_high a ha).1

/-- Lowering the active step register leaves every step output at 0. -/
theorem State.Inv.lowered (h : s.Inv) (a : Axis) : (s.driveStep false).stepOf a ≠ true := by
  intro ha
  rw [State.stepOf_driveStep] at ha
  split at ha
  · cases ha
  · next hax =>
    obtain ⟨rfl, _⟩ := h.step_high a ha
    have hres : s.activeAxis = .reserved := not_not.1 fun hn => hax ⟨rfl, hn⟩
    rw [hres] at ha
    cases ha

/-- Every move of LSM keeps the invariant. -/
theorem State.Inv.lsmMove (h : s.Inv) (hmv : LsmMove s t) : t.Inv := by
  have hacting (hl : s.lstate.acting = true) := h.acting_handler hl
  have hcount : s.lCnt - 1 ≤ s.params.timerMax := (Nat.sub_le _ _).trans h.limit_counter
  have hlow (hl : s.lstate ≠ .high) (a : Axis) (ha : s.stepOf a = true) : a = s.activeAxis ∧ s.mstate = .phigh :=
    ⟨(h.step_high a ha).1, (h.step_high a ha).2.resolve_right hl⟩
  cases hmv with
  | rest => exact h
  | take hl =>
    exact { h with
      limit_counter := debounceTicks_le_timerMax s.params
      step_high := fun a ha => (hlow (by simp [hl]) a ha).imp_right .inl
      acting_handler := nofun }
  | debounceCount hl | highWait hl | lowWait hl =>
    exact { h with limit_counter := hcount }
  | debounceDone hl | checkLeave hl =>
    exact { h with step_high := fun a ha => (hlow (by simp [hl]) a ha).imp_right .inl, acting_handler := nofun }
  | checkReverse hl hi hc =>
    exact { h with
      step_high := fun a ha => (hlow (by simp [hl]) a ha).imp_right .inl
      acting_handler := fun _ => ⟨hc, rfl⟩ }
  | loopPulse hl =>
    exact { h with
      limit_counter := phaseTicks_le_timerMax s.params
      step_high := fun a ha => ⟨h.axis_of_raised ha, .inr rfl⟩
      acting_handler := fun _ => hacting (by rw [hl]; rfl) }
  | loopDone hl | lowEnd hl =>
    exact { h with
      step_high := fun a ha => (hlow (by simp [hl]) a ha).imp_right .inl
      acting_handler := fun _ => hacting (by rw [hl]; rfl) }
  | highEnd hl =>
    exact { h with
      limit_counter := phaseTicks_le_timerMax s.params
      step_high := fun a ha => absurd ha (h.lowered a)
      acting_handler := fun _ => hacting (by rw [hl]; rfl) }
  | finish hl =>
    exact { h with
      step_high := fun a ha => (hlow (by simp [hl]) a ha).imp_right .inl
      acting_handler := nofun
      limit_command := fun _ => (hacting (by rw [hl]; rfl)).1 }

/-! ### MAIN's moves keep the invariant -/

/-- A move of MAIN that starts in no high phase and writes no step register keeps the invariant if what it reaches keeps the
part that does not speak of MAIN's state, has what the table says of its own state, and an emitted frame to send. -/
theorem State.Inv.moved (h : s.Inv) (hl : s.lstate = .idle) (hm : s.mstate ≠ .phigh) (hb : t.BaseInv)
    (hc : t.CycleAt t.mstate) (hf : t.txBuf.bytes ∈ emittedFrames) (htl : t.lstate = s.lstate := by rfl)
    (hx : t.stepX = s.stepX := by rfl) (hy : t.stepY = s.stepY := by rfl) (hz : t.stepZ = s.stepZ := by rfl) :
    t.Inv := by
  have hidle : t.lstate = .idle := htl.trans hl
  refine State.inv_of_parts hb hc (fun a ha => ?_) (fun ha => ?_) fun _ => hf
  · rw [State.stepOf_congr hx hy hz] at ha
    exact absurd ha (h.stepOf_ne_true hm (by simp [hl]) a)
  · simp [hidle, LState.acting] at ha

/-- The boot notice (30_encoding.md R106). -/
theorem bootFrame_mem : TxFrame.bytes ⟨0x07, 0xFF, 0x00, 0x0A⟩ ∈ emittedFrames := by
  decide

/-- The replies to a query, by the flag (30_encoding.md R106). -/
theorem replyFrame_mem (u : Bool) : TxFrame.bytes ⟨0x07, 0x00, usedByte u, 0x0A⟩ ∈ emittedFrames := by
  cases u <;> decide

/-- The status frames, by the outcome (30_encoding.md R106). -/
theorem statusFrame_mem (u : Bool) : TxFrame.bytes ⟨0x07, if u then 0x0F else 0xF0, 0x00, 0x0A⟩ ∈ emittedFrames := by
  cases u <;> decide

theorem rxIdx_zero_ne_seven : (0 : BitVec 3) ≠ 7 := by
  decide

/-- Counting on from an index of 0 to 5 does not reach 7 (10_state.md R14). -/
theorem rxIdx_succ_ne_seven {i : BitVec 3} (h : i ≠ 6) : i + 1 ≠ 7 := by
  revert i
  decide

/-- Every move of MAIN, made while no handler runs, keeps the invariant. -/
theorem State.Inv.mainMove {p : PortIn} (h : s.Inv) (hl : s.lstate = .idle) (hmv : MainMove p s t) : t.Inv := by
  have hb : s.BaseInv := h.base
  have hcount : s.mCnt - 1 ≤ s.params.timerMax := (Nat.sub_le _ _).trans h.main_counter
  have hframe (m : MState) (hm : s.mstate = m) (hne : m ≠ .boot) : s.txBuf.bytes ∈ emittedFrames :=
    h.frame_legal (hm ▸ hne)
  cases hmv with
  | boot hm =>
    obtain ⟨_, _, hj⟩ := h.cycleAt hm
    exact h.moved hl (by simp [hm]) { hb with } hj bootFrame_mem
  | pollPass hm | parseDrop hm =>
    obtain ⟨_, _, hj⟩ := h.cycleAt hm
    exact h.moved hl (by simp [hm]) { hb with } hj (hframe _ hm nofun)
  | pollStart hm =>
    exact h.moved hl (by simp [hm]) { hb with rx_index := rxIdx_zero_ne_seven } (h.cycleAt hm) (hframe _ hm nofun)
  | collectWait | txWait => exact h
  | collectByte hm hv hw hi => exact { h with rx_index := rxIdx_succ_ne_seven hi }
  | collectLast hm => exact h.moved hl (by simp [hm]) { hb with } (h.cycleAt hm) (hframe _ hm nofun)
  | parseQuery hm =>
    obtain ⟨hc, hq, hj⟩ := h.cycleAt hm
    exact h.moved hl (by simp [hm])
      { hb with one_pending := by simp [hc], joystick_alone := fun hn => by simp [hj] at hn } hj (hframe _ hm nofun)
  | parseCommand hm =>
    obtain ⟨hc, hq, hj⟩ := h.cycleAt hm
    exact h.moved hl (by simp [hm])
      { hb with
        one_pending := by simp [hq]
        goto_command := fun _ => rfl
        limit_command := fun _ => rfl
        joystick_alone := fun hn => by simp [hj] at hn } hj (hframe _ hm nofun)
  | dispatchCommand hm hc => exact h.moved hl (by simp [hm]) { hb with } hc (hframe _ hm nofun)
  | dispatchQuery hm hc hq => exact h.moved hl (by simp [hm]) { hb with } hq (hframe _ hm nofun)
  | dispatchJoystick hm hc hq =>
    have hwait : (if s.joyPrev then 0 else s.params.joyDelayTicks) ≤ s.params.timerMax := by
      split
      · exact Nat.zero_le _
      · exact joyDelayTicks_le_timerMax s.params
    exact h.moved hl (by simp [hm]) { hb with main_counter := hwait } ⟨hc, hq, h.cycleAt hm⟩ (hframe _ hm nofun)
  | exec hm =>
    have hc : s.cmdPend = true := h.cycleAt hm
    refine h.moved hl (by simp [hm]) { hb with goto_command := fun _ => hc } ?_ (hframe _ hm nofun)
    rw [State.startCommand_mstate]
    split
    · exact hc
    · next hax => exact ⟨hb.queryPend_eq_false hc, hax, .inl hc⟩
  | pcheckStart hm hk hr =>
    have hburst : s.BurstReady := h.cycleAt hm
    refine State.inv_of_parts { hb with main_counter := phaseTicks_le_timerMax s.params } ⟨hburst, hr⟩
      (fun a ha => ⟨h.axis_of_raised ha, .inl rfl⟩) h.acting_handler fun _ => hframe _ hm nofun
  | pcheckLeave hm =>
    refine h.moved hl (by simp [hm]) { hb with } ?_ (hframe _ hm nofun)
    show State.CycleAt _ (if s.cmdPend then .resp else .cycleEnd)
    split
    · next hc => exact hc
    · trivial
  | phighWait hm | plowWait hm | joywaitCount hm => exact { h with main_counter := hcount }
  | phighEnd hm =>
    exact State.inv_of_parts { hb with main_counter := phaseTicks_le_timerMax s.params } (h.cycleAt hm)
      (fun a ha => absurd ha (h.lowered a)) h.acting_handler fun _ => hframe _ hm nofun
  | plowEnd hm =>
    obtain ⟨hburst, _⟩ := h.cycleAt hm
    exact h.moved hl (by simp [hm]) { hb with } hburst (hframe _ hm nofun)
  | resp hm =>
    have hc : s.cmdPend = true := h.cycleAt hm
    exact h.moved hl (by simp [hm]) { hb with } (hb.joyNow_eq_false (.inl hc)) (statusFrame_mem _)
  | qresp hm =>
    have hj : s.joyNow = false := hb.joyNow_eq_false (.inr (h.cycleAt hm))
    exact h.moved hl (by simp [hm]) { hb with joystick_alone := fun hn => by simp [hj] at hn } hj (replyFrame_mem _)
  | txByte => exact { h with }
  | txLast hm | joyreadNone hm => exact h.moved hl (by simp [hm]) { hb with } trivial (hframe _ hm nofun)
  | joywaitDone hm => exact h.moved hl (by simp [hm]) { hb with } (h.cycleAt hm) (hframe _ hm nofun)
  | joyreadMove hm hj =>
    obtain ⟨hc, hq, _⟩ := h.cycleAt hm
    have hax := joystickMove_axis hj
    exact h.moved hl (by simp [hm]) { hb with joystick_alone := fun _ => ⟨hc, hq, rfl⟩ }
      ⟨hq, by rcases hax with rfl | rfl <;> nofun, .inr rfl⟩ (hframe _ hm nofun)
  | cycleEnd hm =>
    exact h.moved hl (by simp [hm])
      { hb with one_pending := nofun, goto_command := nofun, limit_command := nofun, joystick_alone := nofun }
      ⟨rfl, rfl, rfl⟩ (hframe _ hm nofun)

/-! ### A tick, a reset and a run -/

/-- The synchroniser, the pending latch and the environment's clock do not occur in the invariant. -/
theorem State.Inv.latch {p : PortIn} (h : t.Inv) : (s.latch p t).Inv := { h with }

/-- The reset table with any parameters in their range has the invariant (10_state.md R37). -/
theorem inv_resetTick (hv : s.params.Valid) : s.resetTick.Inv := by
  refine State.inv_of_parts ?_ ⟨rfl, rfl, rfl⟩ (fun a ha => by cases a <;> cases ha) nofun fun hb => absurd rfl hb
  exact
    { params_valid := hv
      rx_index := rxIdx_zero_ne_seven
      main_counter := Nat.zero_le _
      limit_counter := Nat.zero_le _
      one_pending := nofun
      goto_command := nofun
      limit_command := nofun
      joystick_alone := nofun }

theorem State.Inv.step (h : s.Inv) (hs : step s = .next t) : t.Inv := by
  rcases step_cases hs with ⟨_, rfl⟩ | ⟨_, he, t', hm, rfl⟩ | ⟨_, _, rfl⟩
  · exact inv_resetTick h.params_valid
  · exact (h.mainMove (s.mainEn_iff.1 he).1 (.of_mainRule hm)).latch
  · exact (h.lsmMove (.of_lsmRule s)).latch

/-! ### Progress -/

/-- The one rule that can stop does not, at an index the invariant allows (20_memory.md R50). -/
theorem collectRule_next {p : PortIn} (hi : s.rxIdx ≠ 7) : ∃ t, collectRule s p = .next t := by
  obtain ⟨b, hb⟩ := s.buf.write_isSome s.rxIdx p.rxData hi
  simp only [collectRule, hb]
  split
  · split
    · exact ⟨_, rfl⟩
    · exact ⟨_, rfl⟩
  · exact ⟨_, rfl⟩

theorem mainRule_next {p : PortIn} (hi : s.rxIdx ≠ 7) : ∃ t, mainRule p s = .next t := by
  cases hm : s.mstate with
  | boot => exact ⟨_, mainRule_boot hm⟩
  | poll => exact ⟨_, mainRule_poll hm⟩
  | collect => rw [mainRule_collect hm]; exact collectRule_next hi
  | parse => exact ⟨_, mainRule_parse hm⟩
  | dispatch => exact ⟨_, mainRule_dispatch hm⟩
  | exec => exact ⟨_, mainRule_exec hm⟩
  | pcheck => exact ⟨_, mainRule_pcheck hm⟩
  | phigh => exact ⟨_, mainRule_phigh hm⟩
  | plow => exact ⟨_, mainRule_plow hm⟩
  | resp => exact ⟨_, mainRule_resp hm⟩
  | qresp => exact ⟨_, mainRule_qresp hm⟩
  | tx => exact ⟨_, mainRule_tx hm⟩
  | joywait => exact ⟨_, mainRule_joywait hm⟩
  | joyread => exact ⟨_, mainRule_joyread hm⟩
  | cycleEnd => exact ⟨_, mainRule_cycleEnd hm⟩

/-- A state with the invariant has a next state, and that has it too. -/
theorem State.Inv.progress (h : s.Inv) : ∃ t, Machine.step s = .next t ∧ t.Inv := by
  suffices ∃ t, Machine.step s = .next t by
    obtain ⟨t, ht⟩ := this
    exact ⟨t, ht, h.step ht⟩
  cases hr : s.input.rst with
  | true => exact ⟨_, step_of_reset s hr⟩
  | false =>
    cases he : s.mainEn with
    | false => exact ⟨_, step_of_held s hr he⟩
    | true =>
      obtain ⟨t, ht⟩ := mainRule_next (p := s.input) h.rx_index
      exact ⟨_, step_of_main s t hr he ht⟩

/-- Every run from a state with the invariant goes on, and the invariant holds at its end. -/
theorem State.Inv.ticks (h : s.Inv) (k : Nat) : ∃ t, Machine.ticks k s = .next t ∧ t.Inv := by
  induction k generalizing s with
  | zero => exact ⟨s, rfl, h⟩
  | succ k ih =>
    obtain ⟨u, hu, hinv⟩ := h.progress
    rw [ticks_succ hu]
    exact ih hinv

/-- What is at most the longest wait fits `TIMER_W` bits (00_scope.md R2). -/
theorem lt_two_pow_timerWidth {q : Params} {n : Nat} (h : n ≤ q.timerMax) : n < 2 ^ q.timerWidth :=
  h.trans_lt Nat.lt_log2_self

end Parts

/-! ### The statements on the invariant -/

/-- Settles O56: every move of either agent keeps the invariant, and so do the latch and a reset. -/
theorem everyStepKeepsTheInvariant : Obligations.EveryStepKeepsTheInvariant :=
  fun _ _ h hs => h.step hs

/-- Settles O57: the one fault needs `rx_idx = 7`, which the invariant excludes at every tick of the run. -/
theorem noConditionIsFatal : Obligations.NoConditionIsFatal := by
  intro s k h
  obtain ⟨t, ht, hinv⟩ := h.ticks k
  exact ⟨t, ht, lt_two_pow_timerWidth hinv.main_counter, lt_two_pow_timerWidth hinv.limit_counter⟩

/-- Settles O55: the reset state of the model is the table of a reset tick with its own parameters. -/
theorem invariantHoldsAtReset : Obligations.InvariantHoldsAtReset := by
  refine ⟨?_, fun s hv => inv_resetTick hv⟩
  have hvalid : Config.params.Valid := Nat.le_add_left 1 _
  exact { inv_resetTick (s := State.reset) hvalid with }

end Sys2Proof.Machine

/-! What a move leaves unchanged: the elements each agent owns (10_state.md R38), and the statements on the tick that
follow from it. -/

namespace Sys2Proof.Machine

section Frame
variable {p : PortIn} {s t : State}

/-! ### MAIN's moves -/

/-- MAIN writes nothing of LSM's own. -/
theorem MainMove.lsm_unchanged (h : MainMove p s t) : t.lstate = s.lstate ∧ t.lCnt = s.lCnt := by
  cases h <;> exact ⟨rfl, rfl⟩

theorem MainMove.limitHit_changed (h : MainMove p s t) (hne : t.limitHit ≠ s.limitHit) :
    s.mstate = .cycleEnd ∧ t.limitHit = false := by
  cases h with
  | cycleEnd hm => exact ⟨hm, rfl⟩
  | _ => exact absurd rfl hne

theorem MainMove.keepPulsing_changed (h : MainMove p s t) (hne : t.keepPulsing ≠ s.keepPulsing) :
    s.mstate = .pcheck ∧ t.keepPulsing = true := by
  cases h with
  | pcheckLeave hm => exact ⟨hm, rfl⟩
  | _ => exact absurd rfl hne

theorem MainMove.steps_changed (h : MainMove p s t)
    (hne : t.stepX ≠ s.stepX ∨ t.stepY ≠ s.stepY ∨ t.stepZ ≠ s.stepZ) : s.mstate = .pcheck ∨ s.mstate = .phigh := by
  cases h with
  | pcheckStart hm => exact .inl hm
  | phighEnd hm => exact .inr hm
  | _ => exact hne.elim (absurd rfl) fun hyz => hyz.elim (absurd rfl) (absurd rfl)

theorem MainMove.dirOut_changed (h : MainMove p s t) (hne : t.dirOut ≠ s.dirOut) :
    s.mstate = .exec ∨ s.mstate = .joyread := by
  cases h with
  | exec hm => exact .inl hm
  | joyreadMove hm => exact .inr hm
  | _ => exact absurd rfl hne

/-! ### LSM's moves -/

/-- LSM writes nothing of MAIN's own. -/
theorem LsmMove.sameMain (h : LsmMove s t) : SameMain s t := by
  cases h <;> constructor <;> rfl

theorem LsmMove.limitHit_changed (h : LsmMove s t) (hne : t.limitHit ≠ s.limitHit) :
    s.lstate = .finish ∧ t.limitHit = true := by
  cases h with
  | finish hl => exact ⟨hl, rfl⟩
  | _ => exact absurd rfl hne

theorem LsmMove.keepPulsing_changed (h : LsmMove s t) (hne : t.keepPulsing ≠ s.keepPulsing) :
    s.lstate = .finish ∧ t.keepPulsing = false := by
  cases h with
  | finish hl => exact ⟨hl, rfl⟩
  | _ => exact absurd rfl hne

theorem LsmMove.steps_changed (h : LsmMove s t)
    (hne : t.stepX ≠ s.stepX ∨ t.stepY ≠ s.stepY ∨ t.stepZ ≠ s.stepZ) : s.lstate = .loop ∨ s.lstate = .high := by
  cases h with
  | loopPulse hl => exact .inl hl
  | highEnd hl => exact .inr hl
  | _ => exact hne.elim (absurd rfl) fun hyz => hyz.elim (absurd rfl) (absurd rfl)

theorem LsmMove.dirOut_changed (h : LsmMove s t) (hne : t.dirOut ≠ s.dirOut) : s.lstate = .check := by
  cases h with
  | checkReverse hl => exact hl
  | _ => exact absurd rfl hne

/-! ### A held tick -/

/-- The latch writes nothing of MAIN's own. -/
theorem SameMain.latch (h : SameMain s t) : SameMain s (s.latch p t) := { h with }

/-- While MAIN is held neither handshake is offered, so no byte moves (20_memory.md R54, R58). -/
theorem State.no_transfer_of_held (he : s.mainEn = false) :
    s.rxReady = false ∧ s.txValid = false ∧ s.received = none ∧ s.sent = none := by
  have hrx : s.rxReady = false := by simp [State.rxReady, he]
  have htx : s.txValid = false := by simp [State.txValid, he]
  exact ⟨hrx, htx, by simp [State.received, hrx], by simp [State.sent, htx]⟩

theorem State.edge_iff (s : State) : s.edge = true ↔ s.limS = true ∧ s.limPrev = false := by
  simp [State.edge]

theorem State.nextLimPend_iff (s : State) :
    s.nextLimPend = true ↔ (s.limS = true ∧ s.limPrev = false) ∨ (s.limPend = true ∧ s.lstate ≠ .idle) := by
  simp [State.nextLimPend, State.edge]

end Frame

/-! ### The statements on the agents -/

/-- Settles O13: the latch stands around whatever the agents do. -/
theorem tickShiftsSynchroniser : Obligations.TickShiftsSynchroniser := by
  intro s s' hr hs
  obtain ⟨t, rfl⟩ := step_latch hr hs
  exact ⟨rfl, rfl, rfl, rfl, s.edge_iff, s.nextLimPend_iff⟩

/-- Settles O14: a held tick is LSM's, and LSM writes nothing of MAIN's. -/
theorem heldMainKeepsItsState : Obligations.HeldMainKeepsItsState := by
  refine fun s => ⟨s.mainEn_iff, fun ⟨hr, he⟩ => ⟨?_, s.no_transfer_of_held he⟩⟩
  exact ⟨_, step_of_held s hr he, (LsmMove.of_lsmRule s).sameMain.latch⟩

/-- Settles O15: by the moves of the agent whose tick it is. -/
theorem agentsKeepToTheirElements : Obligations.AgentsKeepToTheirElements := by
  constructor
  · intro s s' he hs
    obtain ⟨t, hmv, rfl⟩ := step_mainMove he hs
    obtain ⟨hl, hc⟩ := hmv.lsm_unchanged
    exact ⟨hl, hc, hmv.limitHit_changed, hmv.keepPulsing_changed, hmv.steps_changed, hmv.dirOut_changed⟩
  · intro s s' hh hs
    obtain ⟨t, hmv, rfl⟩ := step_lsmMove hh hs
    exact ⟨hmv.sameMain.latch, hmv.limitHit_changed, hmv.keepPulsing_changed, hmv.steps_changed, hmv.dirOut_changed⟩

end Sys2Proof.Machine

/-! Single ticks: the frame a state executes, reset, the one fault, the branches of PULSE, and the output ports. -/

namespace Sys2Proof.Machine

section Fetch
variable {p : PortIn} {s : State} {i : Instr}

/-- Where a state fetches a frame, MAIN's rule is that frame's meaning (log entry 9). -/
theorem mainRule_of_fetch (h : s.fetch = some i) : mainRule p s = exec i s := by
  unfold State.fetch at h
  cases hm : s.mstate <;> simp only [hm] at h
  case boot => cases h; simp [mainRule, hm]
  case exec => simp [mainRule, hm, h]
  case resp => cases h; simp [mainRule, hm]
  case qresp => cases h; simp [mainRule, hm]
  all_goals cases h

/-- The captured frame is what the bytes of the buffer decode to (30_encoding.md R90). -/
theorem State.captured_of_decode (h : decode s.buf.frame = .frame i) : s.captured = some i := by
  rw [State.captured, h]
  rfl

theorem State.fetch_exec (hm : s.mstate = .exec) (hi : isCommand i = true) (hd : decode s.buf.frame = .frame i) :
    s.fetch = some i := by
  simp [State.fetch, hm, State.capturedCommand, State.captured_of_decode hd, hi]

theorem State.fetch_qresp (hm : s.mstate = .qresp) (hq : s.queryPend = true) (hi : isQuery i = true)
    (hd : decode s.buf.frame = .frame i) : s.fetch = some i := by
  simp [State.fetch, hm, State.queryFrame, hq, State.captured_of_decode hd, Option.filter_some, hi]

theorem State.fetch_qresp_of_none (hm : s.mstate = .qresp) (hq : s.queryPend = false) :
    s.fetch = some (.respUsed (usedByte s.remoteUsed)) := by
  simp [State.fetch, hm, State.queryFrame, hq]

theorem State.fetch_boot (hm : s.mstate = .boot) : s.fetch = some .respReset := by
  simp [State.fetch, hm]

theorem State.fetch_resp (hm : s.mstate = .resp) :
    s.fetch = some (if s.limitHit = true ∧ s.gotoLimit = false then .respLimit else .respOk) := by
  simp [State.fetch, hm, State.statusFrame, State.unexpectedLimit]

end Fetch

/-- Settles O11: an enabled tick is MAIN's rule, and that is `exec` of the frame fetched. -/
theorem stepRunsTheFetchedFrame : Obligations.StepRunsTheFetchedFrame := by
  refine ⟨fun s t i he hf hx => ?_, fun _ _ => State.fetch_exec, fun _ _ => State.fetch_qresp,
    fun _ => State.fetch_qresp_of_none, fun _ => State.fetch_boot, fun _ => State.fetch_resp⟩
  exact step_of_main s t he.1 he.2 ((mainRule_of_fetch hf).trans hx)

/-- Settles O12: a reset tick reads nothing of the state but the model's own three fields. -/
theorem resetClearsEveryElement : Obligations.ResetClearsEveryElement :=
  fun s hr => ⟨⟨_, step_of_reset s hr, rfl⟩, fun _ => ⟨rfl, rfl⟩⟩

/-! ### The one fault -/

theorem collectRule_fault {s : State} {p : PortIn} (hi : s.rxIdx = 7) (hv : p.rxValid = true) :
    collectRule s p = .fault .rxIndexOutOfRange := by
  rw [collectRule, if_pos hv, (s.buf.write_eq_none s.rxIdx p.rxData).2 hi]

theorem collectRule_wait {s : State} {p : PortIn} (hv : p.rxValid = false) : collectRule s p = .next s :=
  if_neg (Bool.eq_false_iff.1 hv)

/-- A fault of MAIN's rule is the tick's. -/
theorem step_of_main_fault {s : State} {f : Fault} (he : s.Enabled) (hm : mainRule s.input s = .fault f) :
    step s = .fault f := by
  simp [step, clockTick, agentRule, he.1, he.2, hm]

/-- Settles O19: the payload write has no register 7. -/
theorem collectAtIndexSevenStops : Obligations.CollectAtIndexSevenStops := by
  refine fun s he hm hi => ⟨fun hv => ?_, fun hv => ?_⟩
  · exact step_of_main_fault he ((mainRule_collect hm).trans (collectRule_fault hi hv))
  · exact step_of_main s s he.1 he.2 ((mainRule_collect hm).trans (collectRule_wait hv))

/-! ### PULSE -/

section Pulse
variable {s : State} (he : s.Enabled)
include he

theorem step_pcheck (hm : s.mstate = .pcheck) : step s = .next (s.latch s.input s.pcheckRule) :=
  step_of_main s _ he.1 he.2 (mainRule_pcheck hm)

theorem step_phigh (hm : s.mstate = .phigh) : step s = .next (s.latch s.input s.phighRule) :=
  step_of_main s _ he.1 he.2 (mainRule_phigh hm)

theorem step_plow (hm : s.mstate = .plow) : step s = .next (s.latch s.input s.plowRule) :=
  step_of_main s _ he.1 he.2 (mainRule_plow hm)

end Pulse

/-- Settles O27: by the two branches of `M_PCHECK`. -/
theorem pulseCheckStartsOrLeaves : Obligations.PulseCheckStartsOrLeaves := by
  refine fun s he hm => ⟨fun hk hr => ?_, fun h => ?_⟩
  · rw [step_pcheck he hm, State.pcheckRule_start hk hr]
    rfl
  · rw [step_pcheck he hm, State.pcheckRule_leave h]

/-- Settles O28: by the two branches of each phase. -/
theorem pulsePhasesCountDown : Obligations.PulsePhasesCountDown := by
  refine fun s he => ⟨fun hm hc => ?_, fun hm hc => ?_, fun hm hc => ?_, fun hm hc => ?_⟩
  · rw [step_phigh he hm, State.phighRule_wait hc]
  · rw [step_phigh he hm, State.phighRule_end hc]
    rfl
  · rw [step_plow he hm, State.plowRule_wait hc]
  · rw [step_plow he hm, State.plowRule_end hc]

/-! ### The output ports -/

theorem State.rxReady_iff (s : State) : s.rxReady = true ↔
    s.lstate = .idle ∧ s.limPend = false ∧
      ((s.mstate = .poll ∧ s.cmdPend = false ∧ s.queryPend = false) ∨ s.mstate = .collect) := by
  rw [State.rxReady, Bool.and_eq_true_iff, State.mainEn_iff, and_assoc]
  simp [and_assoc]

theorem State.txValid_iff (s : State) :
    s.txValid = true ↔ s.lstate = .idle ∧ s.limPend = false ∧ s.mstate = .tx := by
  rw [State.txValid, Bool.and_eq_true_iff, State.mainEn_iff, and_assoc, beq_iff_eq]

/-- Settles O60: the ports are the state's own functions and registers. -/
theorem outputPortsByTheState : Obligations.OutputPortsByTheState :=
  fun s => ⟨s.rxReady_iff, s.txValid_iff, s.txBuf.read_eq s.txIdx, rfl, rfl, rfl, rfl, rfl, rfl⟩

end Sys2Proof.Machine

/-! The capture: what a tick does with the receive port, and the capture along a run (20_memory.md R53, R66,
40_command_decoder.md R111, R112). -/

namespace Sys2Proof.Machine

section Capture
variable {p : PortIn} {s t u : State} {b b' : Payload} {k : Nat}

/-! ### The payload buffer as a frame -/

theorem Payload.frame_injective (h : b.frame = b'.frame) : b = b' := by
  cases b
  cases b'
  simpa [Payload.frame] using h

/-- A payload write puts the byte behind those of the earlier indices; the opening `START` counts as one of them
(20_memory.md R50). -/
theorem Payload.frame_take_write {i : BitVec 3} {x : Byte} (h : b.write i x = some b') :
    b'.frame.take (i.toNat + 2) = b.frame.take (i.toNat + 1) ++ [x] := by
  have hi : i = 0 ∨ i = 1 ∨ i = 2 ∨ i = 3 ∨ i = 4 ∨ i = 5 ∨ i = 6 ∨ i = 7 := by clear h; revert i; decide
  rcases hi with rfl | rfl | rfl | rfl | rfl | rfl | rfl | rfl <;> cases h <;> rfl

/-- Before the last index the next one is a number higher (10_state.md R14). -/
theorem rxIdx_succ_toNat {i : BitVec 3} (h6 : i ≠ 6) (h7 : i ≠ 7) : (i + 1).toNat = i.toNat + 1 := by
  revert i
  decide

/-- An index that takes a byte is not 7. -/
theorem Payload.index_of_write {i : BitVec 3} {x : Byte} (h : b.write i x = some b') : i ≠ 7 := by
  intro h7
  rw [(b.write_eq_none i x).2 h7] at h
  cases h

/-! ### The receive port over one tick -/

/-- `Reception s u o`: from `s` to `u` the block takes the byte `o` from the receive port, or none, and the capture goes on
accordingly (40_command_decoder.md R111, R112). -/
inductive Reception (s u : State) : Option Byte → Prop
  | silent (hm : u.mstate = .collect ↔ s.mstate = .collect) (hi : s.mstate = .collect → u.rxIdx = s.rxIdx)
      (hb : u.buf = s.buf) : Reception s u none
  | start (hm : s.mstate = .poll) (hu : u.mstate = .collect) (hi : u.rxIdx = 0) : Reception s u (some startByte)
  | drop {x : Byte} (hm : s.mstate = .poll) (hx : x ≠ startByte) : Reception s u (some x)
  | payload {x : Byte} (hm : s.mstate = .collect) (hw : s.buf.write s.rxIdx x = some u.buf) (h6 : s.rxIdx ≠ 6)
      (hu : u.mstate = .collect) (hi : u.rxIdx = s.rxIdx + 1) : Reception s u (some x)
  | last {x : Byte} (hm : s.mstate = .collect) (hw : s.buf.write s.rxIdx x = some u.buf) (h6 : s.rxIdx = 6) :
      Reception s u (some x)

theorem State.received_of_ready (hr : s.rxReady = true) (hv : s.input.rxValid = true) :
    s.received = some s.input.rxData := by
  simp [State.received, hr, hv]

theorem State.received_of_not_valid (hv : s.input.rxValid = false) : s.received = none := by
  simp [State.received, hv]

/-- Outside the two decode states no byte moves (20_memory.md R54). -/
theorem State.received_of_not_decoding (hp : s.mstate ≠ .poll) (hc : s.mstate ≠ .collect) : s.received = none := by
  simp [State.received, State.rxReady, hp, hc]

theorem MainMove.buf_changed (h : MainMove p s t) (hne : t.buf ≠ s.buf) : s.mstate = .collect := by
  cases h with
  | collectByte hm | collectLast hm => exact hm
  | _ => exact absurd rfl hne

/-- Collecting begins at a poll and nowhere else (44_control_loop.md R206). -/
theorem MainMove.enters_collect (h : MainMove p s t) (ht : t.mstate = .collect) :
    s.mstate = .poll ∨ s.mstate = .collect := by
  cases h with
  | pollStart hm => exact .inl hm
  | collectWait hm | collectByte hm => exact .inr hm
  | txWait | txByte | phighWait | plowWait | joywaitCount => exact .inr ht
  | exec => rw [State.startCommand_mstate] at ht; split at ht <;> cases ht
  | pcheckLeave => dsimp only at ht; split at ht <;> cases ht
  | _ => cases ht

/-- A poll takes at most one byte, and collecting begins after `START` alone (40_command_decoder.md R111). -/
theorem reception_pollRule (he : s.mainEn = true) (hm : s.mstate = .poll) :
    Reception s (s.pollRule s.input) s.received := by
  have hpass (hn : s.received = none) : Reception s { s with mstate := .dispatch } s.received := by
    rw [hn]
    exact .silent (by simp [hm]) (by simp [hm]) rfl
  unfold State.pollRule
  split
  · next hpend => exact hpass (by simp [State.received, State.rxReady, hm, ← Bool.not_or, hpend])
  · next hpend =>
    obtain ⟨hc, hq⟩ := Bool.or_eq_false_iff.1 (Bool.eq_false_iff.2 hpend)
    split
    · next hv =>
      rw [State.received_of_ready (by simp [State.rxReady, he, hm, hc, hq]) hv]
      split
      · next hd => exact hd ▸ .start hm rfl rfl
      · next hd => exact .drop hm hd
    · next hv => exact hpass (State.received_of_not_valid (Bool.eq_false_iff.2 hv))

/-- Collecting takes every byte that is offered (40_command_decoder.md R112). -/
theorem reception_collectRule (he : s.mainEn = true) (hm : s.mstate = .collect)
    (h : collectRule s s.input = .next t) : Reception s t s.received := by
  rcases collectRule_cases h with ⟨hv, rfl⟩ | ⟨hv, b, hw, hlast⟩
  · rw [State.received_of_not_valid hv]
    exact .silent Iff.rfl (fun _ => rfl) rfl
  · rw [State.received_of_ready (by simp [State.rxReady, he, hm]) hv]
    rcases hlast with ⟨h6, rfl⟩ | ⟨h6, rfl⟩
    · exact .last hm hw h6
    · exact .payload hm hw h6 hm rfl

/-- At every enabled tick; outside the two decode states MAIN takes no byte and leaves the capture as it is. -/
theorem reception_mainRule (he : s.mainEn = true) (h : mainRule s.input s = .next t) : Reception s t s.received := by
  by_cases hp : s.mstate = .poll
  · cases (mainRule_poll hp).symm.trans h
    exact reception_pollRule he hp
  by_cases hc : s.mstate = .collect
  · exact reception_collectRule he hc ((mainRule_collect hc).symm.trans h)
  have hmv : MainMove s.input s t := .of_mainRule h
  rw [State.received_of_not_decoding hp hc]
  exact .silent ⟨fun ht => absurd (hmv.enters_collect ht) (not_or.2 ⟨hp, hc⟩), fun hs => absurd hs hc⟩
    (fun hs => absurd hs hc) (by_contra fun hne => hc (hmv.buf_changed hne))

/-- The latch does not touch the capture. -/
theorem Reception.latch {o : Option Byte} (h : Reception s t o) : Reception s (s.latch p t) o := by
  cases h with
  | silent hm hi hb => exact .silent hm hi hb
  | start hm hu hi => exact .start hm hu hi
  | drop hm hx => exact .drop hm hx
  | payload hm hw h6 hu hi => exact .payload hm hw h6 hu hi
  | last hm hw h6 => exact .last hm hw h6

/-- What a tick without reset does with the receive port; at a held tick nothing. -/
theorem step_reception (hr : s.input.rst = false) (h : step s = .next u) : Reception s u s.received := by
  rcases step_cases h with ⟨hr', _⟩ | ⟨_, he, t, hm, rfl⟩ | ⟨_, he, rfl⟩
  · simp [hr] at hr'
  · exact (reception_mainRule he hm).latch
  · obtain ⟨_, _, hnone, _⟩ := s.no_transfer_of_held he
    have hsame : SameMain s s.lsmRule := (LsmMove.of_lsmRule s).sameMain
    rw [hnone]
    exact Reception.latch (.silent (by rw [hsame.mstate]) (fun _ => hsame.rxIdx) hsame.buf)

/-! ### The capture along a run -/

theorem receivedBytes_succ (h : step s = .next u) :
    receivedBytes (k + 1) s = s.received.toList ++ receivedBytes k u := by
  simp [receivedBytes, h]

/-- A run without reset begins with a tick that receives a byte or none, and goes on without reset. -/
theorem run_reception (hn : s.NoReset (k + 1)) (h : ticks (k + 1) s = .next t) :
    ∃ u o, Reception s u o ∧ u.NoReset k ∧ ticks k u = .next t ∧
      receivedBytes (k + 1) s = o.toList ++ receivedBytes k u := by
  cases hs : step s with
  | next u =>
    refine ⟨u, s.received, step_reception (hn 0 k.succ_pos) hs, fun j hj => ?_, by rwa [ticks_succ hs] at h,
      receivedBytes_succ hs⟩
    rw [step_inputAt hs]
    exact hn (j + 1) (Nat.succ_lt_succ hj)
  | fault f => simp [ticks, hs] at h
  | refused r => simp [ticks, hs] at h

/-- Nothing but a received byte changes the capture. -/
theorem buf_of_receivedBytes_nil (hn : s.NoReset k) (h : ticks k s = .next t) (hrecv : receivedBytes k s = []) :
    t.buf = s.buf := by
  induction k generalizing s with
  | zero => cases h; rfl
  | succ k ih =>
    obtain ⟨u, o, hrec, hnu, hu, hbytes⟩ := run_reception hn h
    rw [hrecv] at hbytes
    obtain ⟨ho, hrest⟩ := List.append_eq_nil_iff.1 hbytes.symm
    cases hrec with
    | silent _ _ hb => exact (ih hnu hu hrest).trans hb
    | _ => cases ho

/-- While the frame is collected, the bytes still to come go behind those of the earlier indices. -/
theorem frame_of_collecting (hm : s.mstate = .collect) (hn : s.NoReset k) (h : ticks k s = .next t)
    (hlen : s.rxIdx.toNat + (receivedBytes k s).length = 7) :
    t.buf.frame = s.buf.frame.take (s.rxIdx.toNat + 1) ++ receivedBytes k s := by
  induction k generalizing s with
  | zero =>
    cases h
    have hidx : t.rxIdx.toNat = 7 := hlen
    rw [hidx]
    rfl
  | succ k ih =>
    obtain ⟨u, o, hrec, hnu, hu, hbytes⟩ := run_reception hn h
    rw [hbytes] at hlen ⊢
    cases hrec with
    | start hp | drop hp => simp [hm] at hp
    | silent hmu hi hb =>
      rw [← hi hm] at hlen ⊢
      rw [← hb]
      exact ih (hmu.2 hm) hnu hu hlen
    | payload _ hw h6 hmu hi =>
      have hidx : u.rxIdx.toNat = s.rxIdx.toNat + 1 := hi ▸ rxIdx_succ_toNat h6 (Payload.index_of_write hw)
      have hframe := ih hmu hnu hu (by simp at hlen; omega)
      rw [hframe, hidx, Payload.frame_take_write hw, List.append_assoc]
      rfl
    | last _ hw h6 =>
      rw [h6] at hlen hw ⊢
      have hrest : receivedBytes k u = [] := List.eq_nil_of_length_eq_zero (by simp at hlen; omega)
      rw [buf_of_receivedBytes_nil hnu hu hrest, hrest]
      exact Payload.frame_take_write hw

/-- Before the frame is collected, the first byte received opens it, if it is `START`; its place is not in the buffer. -/
theorem frame_of_not_collecting {payload : List Byte} (hm : s.mstate ≠ .collect) (hn : s.NoReset k)
    (h : ticks k s = .next t) (hrecv : receivedBytes k s = startByte :: payload) (hlen : payload.length = 7) :
    t.buf.frame = startByte :: payload := by
  induction k generalizing s with
  | zero => cases hrecv
  | succ k ih =>
    obtain ⟨u, o, hrec, hnu, hu, hbytes⟩ := run_reception hn h
    rw [hrecv] at hbytes
    cases hrec with
    | silent hmu => exact ih (fun hc => hm (hmu.1 hc)) hnu hu hbytes.symm
    | payload hc | last hc => exact absurd hc hm
    | drop _ hx => exact absurd (List.cons.inj hbytes).1.symm hx
    | start _ hmu hi =>
      obtain ⟨_, rfl⟩ := List.cons.inj hbytes
      have hframe := frame_of_collecting hmu hnu hu (by simpa [hi] using hlen)
      rw [hframe, hi]
      rfl

end Capture

/-- Settles O22: the first byte received after a poll opens the capture, and the seven that follow fill it. -/
theorem captureKeepsArrivalOrder : Obligations.CaptureKeepsArrivalOrder := by
  intro s t k payload hm _ _ hn hlen hrecv h
  rw [hrecv]
  exact frame_of_not_collecting (by simp [hm]) hn h hrecv hlen

end Sys2Proof.Machine

/-! A buffer that nothing reads before it is overwritten: two states that differ in it run alike, with the same trace
(20_memory.md R66, 30_encoding.md R100). -/

namespace Sys2Proof.Machine

/-- The state with another payload buffer. -/
def State.setBuf (s : State) (b : Payload) : State :=
  { s with buf := b }

section BufferUnread
variable {p : PortIn} {s t : State} {b : Payload} {k : Nat}

/-! ### The rules that do not read the buffer -/

theorem State.ite_setBuf {c : Prop} [Decidable c] :
    (if c then s else t).setBuf b = if c then s.setBuf b else t.setBuf b :=
  apply_ite (State.setBuf · b) c s t

theorem State.stepWrite_setBuf {a : Axis} {v : Bool} : (s.setBuf b).stepWrite a v = (s.stepWrite a v).setBuf b := by
  cases a <;> rfl

theorem State.pollRule_setBuf : (s.setBuf b).pollRule p = (s.pollRule p).setBuf b := by
  simp only [State.pollRule, State.ite_setBuf]
  rfl

theorem State.dispatchRule_setBuf : (s.setBuf b).dispatchRule = s.dispatchRule.setBuf b := by
  simp only [State.dispatchRule, State.ite_setBuf]
  rfl

theorem State.pcheckRule_setBuf : (s.setBuf b).pcheckRule = s.pcheckRule.setBuf b := by
  simp only [State.pcheckRule, State.stepWrite_setBuf, State.ite_setBuf]
  rfl

theorem State.phighRule_setBuf : (s.setBuf b).phighRule = s.phighRule.setBuf b := by
  simp only [State.phighRule, State.stepWrite_setBuf, State.ite_setBuf]
  rfl

theorem State.plowRule_setBuf : (s.setBuf b).plowRule = s.plowRule.setBuf b := by
  simp only [State.plowRule, State.ite_setBuf]
  rfl

theorem State.txRule_setBuf : (s.setBuf b).txRule p = (s.txRule p).setBuf b := by
  simp only [State.txRule, State.ite_setBuf]
  rfl

theorem State.joywaitRule_setBuf : (s.setBuf b).joywaitRule = s.joywaitRule.setBuf b := by
  simp only [State.joywaitRule, State.ite_setBuf]
  rfl

theorem State.joyreadRule_setBuf : (s.setBuf b).joyreadRule p = (s.joyreadRule p).setBuf b := by
  have hparams : (s.setBuf b).params = s.params := rfl
  rw [State.joyreadRule, State.joyreadRule, hparams]
  cases joystickMove s.params p.adcLr p.adcUd <;> rfl

/-- MAIN reads the buffer in three states alone (20_memory.md R66). -/
theorem mainRule_setBuf (hcol : s.mstate ≠ .collect) (hpar : s.mstate ≠ .parse) (hex : s.mstate ≠ .exec)
    (h : mainRule p s = .next t) : mainRule p (s.setBuf b) = .next (t.setBuf b) := by
  cases hm : s.mstate with
  | collect => exact absurd hm hcol
  | parse => exact absurd hm hpar
  | exec => exact absurd hm hex
  | boot => cases (mainRule_boot hm).symm.trans h; exact mainRule_boot hm
  | poll => cases (mainRule_poll hm).symm.trans h; rw [← State.pollRule_setBuf]; exact mainRule_poll hm
  | dispatch => cases (mainRule_dispatch hm).symm.trans h; rw [← State.dispatchRule_setBuf]; exact mainRule_dispatch hm
  | pcheck => cases (mainRule_pcheck hm).symm.trans h; rw [← State.pcheckRule_setBuf]; exact mainRule_pcheck hm
  | phigh => cases (mainRule_phigh hm).symm.trans h; rw [← State.phighRule_setBuf]; exact mainRule_phigh hm
  | plow => cases (mainRule_plow hm).symm.trans h; rw [← State.plowRule_setBuf]; exact mainRule_plow hm
  | resp => cases (mainRule_resp hm).symm.trans h; exact mainRule_resp hm
  | qresp => cases (mainRule_qresp hm).symm.trans h; exact mainRule_qresp hm
  | tx => cases (mainRule_tx hm).symm.trans h; rw [← State.txRule_setBuf]; exact mainRule_tx hm
  | joywait => cases (mainRule_joywait hm).symm.trans h; rw [← State.joywaitRule_setBuf]; exact mainRule_joywait hm
  | joyread => cases (mainRule_joyread hm).symm.trans h; rw [← State.joyreadRule_setBuf]; exact mainRule_joyread hm
  | cycleEnd => cases (mainRule_cycleEnd hm).symm.trans h; exact mainRule_cycleEnd hm

/-- LSM never reads the buffer. -/
theorem State.lsmRule_setBuf : (s.setBuf b).lsmRule = s.lsmRule.setBuf b := by
  have hl : (s.setBuf b).lstate = s.lstate := rfl
  rw [State.lsmRule, State.lsmRule, hl]
  cases s.lstate with
  | idle | debounce | check | loop | high | low =>
    simp only [State.lIdleRule, State.lDebounceRule, State.lCheckRule, State.lLoopRule, State.lHighRule, State.lLowRule,
      State.stepWrite_setBuf, State.ite_setBuf]
    rfl
  | finish => rfl

/-! ### A buffer that is overwritten before it is read -/

/-- No command is pending and MAIN is at no state that reads the buffer; while it collects, `b` has the bytes collected so
far. Then the buffer might as well be `b`. -/
structure State.Unread (s : State) (b : Payload) : Prop where
  no_command : s.cmdPend = false
  not_parse : s.mstate ≠ .parse
  not_exec : s.mstate ≠ .exec
  collected : s.mstate = .collect → b.frame.take (s.rxIdx.toNat + 1) = s.buf.frame.take (s.rxIdx.toNat + 1)

theorem State.Unread.symm (h : s.Unread b) : (s.setBuf b).Unread s.buf :=
  { h with collected := fun hm => (h.collected hm).symm }

theorem State.Unread.latch (h : t.Unread b) : (s.latch p t).Unread b := { h with }

/-- LSM writes nothing that bears on the capture. -/
theorem State.Unread.sameMain (h : s.Unread b) (hs : SameMain s t) : t.Unread b where
  no_command := hs.cmdPend.trans h.no_command
  not_parse := by rw [hs.mstate]; exact h.not_parse
  not_exec := by rw [hs.mstate]; exact h.not_exec
  collected := by rw [hs.mstate, hs.rxIdx, hs.buf]; exact h.collected

/-- Without a command pending no move leads to a reading state but through the collection of a whole frame. -/
theorem State.Unread.mainMove (h : s.Unread b) (hcol : s.mstate ≠ .collect) (hmv : MainMove p s t) : t.Unread b := by
  have hc : s.cmdPend = false := h.no_command
  cases hmv with
  | collectWait hm | collectByte hm | collectLast hm => exact absurd hm hcol
  | parseQuery hm | parseCommand hm | parseDrop hm => exact absurd hm h.not_parse
  | exec hm => exact absurd hm h.not_exec
  | dispatchCommand _ hcmd => simp [hc] at hcmd
  | pollStart => exact ⟨hc, nofun, nofun, fun _ => rfl⟩
  | phighWait | plowWait | joywaitCount | txWait | txByte => exact { h with }
  | pcheckLeave =>
    rw [hc]
    exact ⟨rfl, nofun, nofun, nofun⟩
  | cycleEnd => exact ⟨rfl, nofun, nofun, nofun⟩
  | _ => exact ⟨hc, nofun, nofun, nofun⟩

theorem collectRule_last (hv : p.rxValid = true) (hw : s.buf.write s.rxIdx p.rxData = some b) (h6 : s.rxIdx = 6) :
    collectRule s p = .next { s with buf := b, mstate := .parse } := by
  rw [Machine.collectRule, if_pos hv, hw]
  exact if_pos h6

theorem collectRule_more (hv : p.rxValid = true) (hw : s.buf.write s.rxIdx p.rxData = some b) (h6 : s.rxIdx ≠ 6) :
    collectRule s p = .next { s with buf := b, rxIdx := s.rxIdx + 1 } := by
  rw [Machine.collectRule, if_pos hv, hw]
  exact if_neg h6

/-- A tick of `M_COLLECT` puts the same byte into both buffers; with the last byte they become equal. -/
theorem State.Unread.collectRule (h : s.Unread b) (hm : s.mstate = .collect) (hs : collectRule s p = .next t) :
    ∃ b', collectRule (s.setBuf b) p = .next (t.setBuf b') ∧ (b' = t.buf ∨ t.Unread b') := by
  rcases collectRule_cases hs with ⟨hv, rfl⟩ | ⟨hv, c, hw, hlast⟩
  · exact ⟨b, collectRule_wait hv, .inr h⟩
  have h7 : s.rxIdx ≠ 7 := Payload.index_of_write hw
  obtain ⟨b', hw'⟩ := b.write_isSome s.rxIdx p.rxData h7
  have htake : b'.frame.take (s.rxIdx.toNat + 2) = c.frame.take (s.rxIdx.toNat + 2) := by
    rw [Payload.frame_take_write hw', Payload.frame_take_write hw, h.collected hm]
  refine ⟨b', ?_⟩
  rcases hlast with ⟨h6, rfl⟩ | ⟨h6, rfl⟩
  · rw [h6] at htake
    exact ⟨collectRule_last hv hw' h6, .inl (Payload.frame_injective htake)⟩
  · have hidx : (s.rxIdx + 1).toNat = s.rxIdx.toNat + 1 := rxIdx_succ_toNat h6 h7
    exact ⟨collectRule_more hv hw' h6, .inr { h with collected := fun _ => by rw [hidx]; exact htake }⟩

theorem State.Unread.mainRule (h : s.Unread b) (hs : mainRule p s = .next t) :
    ∃ b', mainRule p (s.setBuf b) = .next (t.setBuf b') ∧ (b' = t.buf ∨ t.Unread b') := by
  by_cases hm : s.mstate = .collect
  · obtain ⟨b', hs', hb'⟩ := h.collectRule hm ((mainRule_collect hm).symm.trans hs)
    exact ⟨b', (mainRule_collect (s := s.setBuf b) hm).trans hs', hb'⟩
  · exact ⟨b, mainRule_setBuf hm h.not_parse h.not_exec hs, .inr (h.mainMove hm (.of_mainRule hs))⟩

/-! ### Ticks and traces -/

/-- A tick of the one state is a tick of the other, and then the buffers are equal or the difference is still unread. -/
theorem State.Unread.step (h : s.Unread b) (hs : step s = .next t) :
    ∃ b', step (s.setBuf b) = .next (t.setBuf b') ∧ (b' = t.buf ∨ t.Unread b') := by
  rcases step_cases hs with ⟨hr, rfl⟩ | ⟨hr, he, u, hu, rfl⟩ | ⟨hr, he, rfl⟩
  · exact ⟨State.reset.buf, step_of_reset (s.setBuf b) hr, .inl rfl⟩
  · obtain ⟨b', hu', hb'⟩ := h.mainRule hu
    exact ⟨b', step_of_main (s.setBuf b) _ hr he hu', hb'.imp_right State.Unread.latch⟩
  · refine ⟨b, ?_, .inr (h.sameMain (LsmMove.of_lsmRule s).sameMain).latch⟩
    rw [step_of_held (s.setBuf b) hr he, State.lsmRule_setBuf]
    rfl

/-- The buffer is no output. -/
theorem tickObs_setBuf {b' : Payload} : tickObs (s.setBuf b) (t.setBuf b') = tickObs s t := rfl

/-- Where the machine stops nothing is observed. -/
theorem trace_of_stop (h : ¬∃ t, step s = .next t) : trace k s = [] := by
  cases k with
  | zero => rfl
  | succ k =>
    rw [trace]
    split
    · next t hs => exact absurd ⟨t, hs⟩ h
    · rfl
    · rfl

/-- A difference in an unread buffer is never seen. -/
theorem State.Unread.trace (h : s.Unread b) : trace k (s.setBuf b) = trace k s := by
  induction k generalizing s b with
  | zero => rfl
  | succ k ih =>
    by_cases hnext : ∃ t, Machine.step s = .next t
    · obtain ⟨t, hs⟩ := hnext
      obtain ⟨b', hs', hb'⟩ := h.step hs
      rw [trace_succ hs', trace_succ hs, tickObs_setBuf]
      rcases hb' with rfl | hb'
      · rfl
      · rw [ih hb']
    · have hstop : ¬∃ t, Machine.step (s.setBuf b) = .next t := by
        rintro ⟨t, ht⟩
        obtain ⟨_, hs, _⟩ := h.symm.step ht
        exact hnext ⟨_, hs⟩
      rw [trace_of_stop hnext, trace_of_stop hstop]

end BufferUnread

/-- Settles O59: with a query dispatched no command is pending, so the buffer is overwritten before it is read again. -/
theorem queryIgnoresTheRestOfItsFrame : Obligations.QueryIgnoresTheRestOfItsFrame := by
  intro s b k hm hc _
  exact State.Unread.trace ⟨hc, by simp [hm], by simp [hm], by simp [hm]⟩

end Sys2Proof.Machine

/-! Frames as bytes: the fields of a command frame put together and taken apart, the verdict on well-framed bytes, and the
rows of the command map, no two of which select the same bytes (30_encoding.md R81 to R90, R96, R97, R106). -/

namespace Sys2Proof

/-! ### The fields -/

section Fields
variable (a : Axis) (d q : Bool) (ign : BitVec 4) (c : Count) (ctrl p3 p2 p1 p0 : Byte)

theorem ctrlAxis_ctrlByte : ctrlAxis (ctrlByte a d ign q) = a := by
  revert d ign q
  cases a <;> decide

theorem ctrlDir_ctrlByte : ctrlDir (ctrlByte a d ign q) = d := by
  revert d ign q
  cases a <;> decide

theorem ctrlIgnored_ctrlByte : ctrlIgnored (ctrlByte a d ign q) = ign := by
  revert d ign q
  cases a <;> decide

theorem ctrlQuery_ctrlByte : ctrlQuery (ctrlByte a d ign q) = q := by
  revert d ign q
  cases a <;> decide

/-- A control byte is its four fields (30_encoding.md R82). -/
theorem ctrlByte_fields : ctrlByte (ctrlAxis ctrl) (ctrlDir ctrl) (ctrlIgnored ctrl) (ctrlQuery ctrl) = ctrl := by
  revert ctrl
  decide

/-- A count is its four bytes (30_encoding.md R84). -/
theorem countOf_countBytes : countOf (countByte c 3) (countByte c 2) (countByte c 1) (countByte c 0) = c := by
  simp only [countOf, countByte]
  ext i hi
  simp
  grind

theorem countByte_countOf :
    countByte (countOf p3 p2 p1 p0) 3 = p3 ∧ countByte (countOf p3 p2 p1 p0) 2 = p2 ∧
      countByte (countOf p3 p2 p1 p0) 1 = p1 ∧ countByte (countOf p3 p2 p1 p0) 0 = p0 := by
  refine ⟨?_, ?_, ?_, ?_⟩ <;> ext i hi <;> simp [countByte, countOf] <;> grind

end Fields

/-! ### The reserved rows -/

/-- The fourteen reserved forms with the given fields, in the order of the patterns of 30_encoding.md R97. -/
def reservedForms (a : Axis) (d : Bool) (ign : BitVec 4) (g : Byte) (c : Count) : List Instr :=
  [.rsvGoto01 a d ign g c, .rsvGoto10 a d ign g c, .rsvGoto001 a d ign g c, .rsvGoto0001 a d ign g c,
    .rsvGoto00001 a d ign g c, .rsvGoto000001 a d ign g c, .rsvGoto0000001 a d ign g c, .rsvGoto00000001 a d ign g c,
    .rsvGoto110 a d ign g c, .rsvGoto1110 a d ign g c, .rsvGoto11110 a d ign g c, .rsvGoto111110 a d ign g c,
    .rsvGoto1111110 a d ign g c, .rsvGoto11111110 a d ign g c]

/-- A byte does not fit two patterns that differ on a bit both fix. -/
theorem Byte.fits_eq_false {m v m' v' g : Byte} (h : Byte.fits m v g = true) (hne : v &&& m' ≠ v' &&& m) :
    Byte.fits m' v' g = false := by
  rw [Byte.fits, beq_iff_eq] at h
  rw [Byte.fits, beq_eq_false_iff_ne]
  rintro rfl
  rw [← h] at hne
  exact hne (by rw [BitVec.and_assoc, BitVec.and_comm m m', BitVec.and_assoc])

section Reserved
variable {a : Axis} {d : Bool} {ign : BitVec 4} {g : Byte} {c : Count} {i : Instr}

/-- The decoder picks the form whose pattern the byte fits (30_encoding.md R97). -/
theorem reservedGoto_eq (hi : i ∈ reservedForms a d ign g c) (hw : i.wellFormed = true) :
    reservedGoto a d ign g c = i := by
  simp only [reservedForms, List.mem_cons, List.not_mem_nil, or_false] at hi
  rcases hi with rfl | rfl | rfl | rfl | rfl | rfl | rfl | rfl | rfl | rfl | rfl | rfl | rfl | rfl <;>
    rw [Instr.wellFormed] at hw <;> simp [reservedGoto, Byte.fits_eq_false hw] <;> exact hw

/-- Neither byte with a meaning of its own fits a reserved pattern (30_encoding.md R83). -/
theorem ne_goto_of_reserved (hi : i ∈ reservedForms a d ign g c) (hw : i.wellFormed = true) :
    g ≠ gotoOn ∧ g ≠ gotoOff := by
  simp only [reservedForms, List.mem_cons, List.not_mem_nil, or_false] at hi
  rcases hi with rfl | rfl | rfl | rfl | rfl | rfl | rfl | rfl | rfl | rfl | rfl | rfl | rfl | rfl <;>
    constructor <;> rintro rfl <;> cases hw

/-- A reserved byte gives exactly one well-formed form, the one the decoder picks (30_encoding.md R97). -/
theorem reservedGoto_spec (hon : g ≠ gotoOn) (hoff : g ≠ gotoOff) :
    reservedGoto a d ign g c ∈ reservedForms a d ign g c ∧ (reservedGoto a d ign g c).wellFormed = true := by
  have hfit : ∃ i ∈ reservedForms a d ign g c, i.wellFormed = true := by
    simpa [reservedForms, Instr.wellFormed] using reserved_byte_fits g hon hoff
  obtain ⟨i, hi, hw⟩ := hfit
  rw [reservedGoto_eq hi hw]
  exact ⟨hi, hw⟩

theorem encode_reservedGoto : encode (reservedGoto a d ign g c) = commandBytes a d ign false g c := by
  refine reservedGoto_induction (P := fun i => encode i = commandBytes a d ign false g c)
    ?_ ?_ ?_ ?_ ?_ ?_ ?_ ?_ ?_ ?_ ?_ ?_ ?_ ?_ <;> intros <;> rfl

end Reserved

/-! ### Well-framed bytes -/

/-- The frame of a `START`, the fields and an `END`, by tests 3 to 6 of 30_encoding.md R90. -/
def commandFrame (a : Axis) (d : Bool) (ign : BitVec 4) (q : Bool) (g : Byte) (c : Count) : Instr :=
  if q then .query a d ign g c
  else if g = gotoOn then .gotolim a d ign c
  else if g = gotoOff then .move a d ign c
  else reservedGoto a d ign g c

section Frame
variable {a : Axis} {d q : Bool} {ign : BitVec 4} {g : Byte} {c : Count} {i : Instr}

theorem commandFrame_reserved (hon : g ≠ gotoOn) (hoff : g ≠ gotoOff) :
    commandFrame a d ign false g c = reservedGoto a d ign g c := by
  rw [commandFrame, if_neg Bool.false_ne_true, if_neg hon, if_neg hoff]

/-- What holds of each of the four kinds of received frame holds of the frame of any fields. -/
theorem commandFrame_induction {P : Bool → Byte → Instr → Prop} (hquery : ∀ g, P true g (.query a d ign g c))
    (hgotolim : P false gotoOn (.gotolim a d ign c)) (hmove : P false gotoOff (.move a d ign c))
    (hreserved : ∀ g, g ≠ gotoOn → g ≠ gotoOff → P false g (reservedGoto a d ign g c)) (q : Bool) (g : Byte) :
    P q g (commandFrame a d ign q g c) := by
  cases q with
  | true => exact hquery g
  | false =>
    by_cases hon : g = gotoOn
    · exact hon ▸ hgotolim
    by_cases hoff : g = gotoOff
    · exact hoff ▸ hmove
    · exact commandFrame_reserved hon hoff ▸ hreserved g hon hoff

theorem commandFrame_wellFormed : (commandFrame a d ign q g c).wellFormed = true :=
  commandFrame_induction (P := fun _ _ i => i.wellFormed = true) (fun _ => rfl) rfl rfl
    (fun _ hon hoff => (reservedGoto_spec hon hoff).2) q g

theorem encode_commandFrame : encode (commandFrame a d ign q g c) = commandBytes a d ign q g c :=
  commandFrame_induction (P := fun q g i => encode i = commandBytes a d ign q g c) (fun _ => rfl) rfl rfl
    (fun _ _ _ => encode_reservedGoto) q g

/-- Eight bytes that are framed right decode to the frame of their fields (30_encoding.md R90, tests 3 to 6). -/
theorem decode_framed (ctrl g p3 p2 p1 p0 : Byte) :
    decode [startByte, ctrl, g, p3, p2, p1, p0, endByte] = .frame
      (commandFrame (ctrlAxis ctrl) (ctrlDir ctrl) (ctrlIgnored ctrl) (ctrlQuery ctrl) g (countOf p3 p2 p1 p0)) := by
  rw [decode, decodeCommand, if_neg (not_not.2 rfl), if_neg (not_not.2 rfl), commandFrame]
  simp only [apply_ite Decoded.frame]

/-- Decoding the bytes of given fields (30_encoding.md R81). -/
theorem decode_commandBytes : decode (commandBytes a d ign q g c) = .frame (commandFrame a d ign q g c) := by
  rw [commandBytes, decode_framed, ctrlAxis_ctrlByte, ctrlDir_ctrlByte, ctrlIgnored_ctrlByte, ctrlQuery_ctrlByte,
    countOf_countBytes]

/-- Every eight bytes that are framed right are the bytes of some fields. -/
theorem framed_eq_commandBytes (ctrl g p3 p2 p1 p0 : Byte) :
    [startByte, ctrl, g, p3, p2, p1, p0, endByte] =
      commandBytes (ctrlAxis ctrl) (ctrlDir ctrl) (ctrlIgnored ctrl) (ctrlQuery ctrl) g (countOf p3 p2 p1 p0) := by
  obtain ⟨h3, h2, h1, h0⟩ := countByte_countOf p3 p2 p1 p0
  rw [commandBytes, ctrlByte_fields, h3, h2, h1, h0]

/-- Eight bytes that decode are framed right (30_encoding.md R90, tests 1 and 2). -/
theorem framed_of_decodeCommand {start ctrl p3 p2 p1 p0 last : Byte}
    (h : decodeCommand start ctrl g p3 p2 p1 p0 last = .frame i) : start = startByte ∧ last = endByte := by
  unfold decodeCommand at h
  by_cases hs : start = startByte
  · by_cases he : last = endByte
    · exact ⟨hs, he⟩
    · rw [if_neg (not_not.2 hs), if_pos he] at h
      cases h
  · rw [if_pos hs] at h
    cases h

/-- Four bytes that decode are those of a well-formed emitted frame (30_encoding.md R106). -/
theorem encode_of_decodeResponse {start status third last : Byte}
    (h : decodeResponse start status third last = .frame i) :
    i.wellFormed = true ∧ encode i = [start, status, third, last] := by
  unfold decodeResponse at h
  split at h
  · cases h
  next hs =>
  obtain rfl := not_not.1 hs
  split at h
  · cases h
  next he =>
  obtain rfl := not_not.1 he
  split at h
  · next hb =>
    obtain ⟨rfl, rfl⟩ := hb
    cases h
    exact ⟨rfl, rfl⟩
  split at h
  · next hb =>
    obtain ⟨rfl, rfl⟩ := hb
    cases h
    exact ⟨rfl, rfl⟩
  split at h
  · next hb =>
    obtain ⟨rfl, rfl⟩ := hb
    cases h
    exact ⟨rfl, rfl⟩
  split at h
  · next hb =>
    obtain ⟨rfl, hu⟩ := hb
    cases h
    exact ⟨hu, rfl⟩
  · cases h

/-- Bytes that decode are the encoding of a well-formed frame. -/
theorem encode_of_decode {bs : List Byte} (h : decode bs = .frame i) : i.wellFormed = true ∧ encode i = bs := by
  unfold decode at h
  split at h
  · next b0 ctrl g p3 p2 p1 p0 b7 =>
    obtain ⟨rfl, rfl⟩ := framed_of_decodeCommand h
    cases (decode_framed ctrl g p3 p2 p1 p0).symm.trans h
    exact ⟨commandFrame_wellFormed, encode_commandFrame.trans (framed_eq_commandBytes ctrl g p3 p2 p1 p0).symm⟩
  · exact encode_of_decodeResponse h
  · cases h

theorem decode_encode_reserved (hi : i ∈ reservedForms a d ign g c) (hw : i.wellFormed = true) :
    decode (encode i) = .frame i := by
  obtain ⟨hon, hoff⟩ := ne_goto_of_reserved hi hw
  rw [← reservedGoto_eq hi hw, encode_reservedGoto, decode_commandBytes, commandFrame_reserved hon hoff]

end Frame

/-- Settles O1: a command frame's fields survive the eight bytes, and its go-to-limit byte selects its own form again. -/
theorem decodeInvertsEncode : Obligations.DecodeInvertsEncode := by
  intro i hw
  cases i with
  | move a d ign c => exact decode_commandBytes
  | gotolim a d ign c => exact decode_commandBytes
  | query a d ign g c => exact decode_commandBytes
  | respReset => rfl
  | respOk => rfl
  | respLimit => rfl
  | respUsed u => exact if_pos ⟨rfl, hw⟩
  | _ a d ign g c =>
    refine decode_encode_reserved (a := a) (d := d) (ign := ign) (g := g) (c := c) ?_ hw
    simp [reservedForms]

/-- Settles O2: the fields of well-framed bytes, put together again, are those bytes. -/
theorem encodeInvertsDecode : Obligations.EncodeInvertsDecode :=
  fun _ _ => encode_of_decode

/-! ### The rows of the command map -/

/-- The 21 rows (30_encoding.md R96, R97, R106). -/
def rowTable : List Row :=
  [rowOf (.move .x false 0 0), rowOf (.gotolim .x false 0 0), rowOf (.query .x false 0 0 0)] ++
    (reservedForms .x false 0 0 0).map rowOf ++ [rowOf .respReset, rowOf .respOk, rowOf .respLimit, rowOf (.respUsed 0)]

theorem rowOf_mem_rowTable (i : Instr) : rowOf i ∈ rowTable := by
  cases i <;> simp [rowTable, reservedForms, rowOf]

/-- Two rows of frames of the same length differ on a bit that both masks fix. -/
theorem rowTable_exclusive : ∀ r ∈ rowTable, ∀ r' ∈ rowTable, r.bytes = r'.bytes →
    r.value &&& r'.mask = r'.value &&& r.mask → r = r' := by
  decide

/-- The framing alone as mask and match: `START` and `END` of eight bytes (30_encoding.md R81). -/
def framingRow : Row :=
  ⟨8, frameNumber [0xFF, 0, 0, 0, 0, 0, 0, 0xFF], frameNumber [startByte, 0, 0, 0, 0, 0, 0, endByte]⟩

/-- Each row is of one of the two lengths; the rows of eight bytes fix the framing, and those of four bytes all but the last
bit of the third byte. -/
theorem rowTable_framing : ∀ r ∈ rowTable,
    (r.bytes = 8 ∧ r.mask &&& framingRow.mask = framingRow.mask ∧ r.value &&& framingRow.mask = framingRow.value) ∨
    r ∈ [rowOf .respReset, rowOf .respOk, rowOf .respLimit, rowOf (.respUsed 0)] := by
  decide

section Rows
variable {r r' : Row} {bs : List Byte} {i : Instr}

theorem Row.selects_def : r.selects bs = true ↔ bs.length = r.bytes ∧ frameNumber bs &&& r.mask = r.value := by
  simp [Row.selects]

/-- No two rows of the table select the same bytes. -/
theorem Row.eq_of_selects (hr : r ∈ rowTable) (hr' : r' ∈ rowTable) (h : r.selects bs = true)
    (h' : r'.selects bs = true) : r = r' := by
  obtain ⟨hl, hv⟩ := Row.selects_def.1 h
  obtain ⟨hl', hv'⟩ := Row.selects_def.1 h'
  refine rowTable_exclusive r hr r' hr' (hl.symm.trans hl') ?_
  rw [← hv, ← hv', Nat.land_assoc, Nat.land_assoc, Nat.land_comm r.mask]

/-- What a row selects, a coarser row selects. -/
theorem Row.selects_coarser (h : r.selects bs = true) (hb : r.bytes = r'.bytes) (hm : r.mask &&& r'.mask = r'.mask)
    (hv : r.value &&& r'.mask = r'.value) : r'.selects bs = true := by
  obtain ⟨hl, hs⟩ := Row.selects_def.1 h
  exact Row.selects_def.2 ⟨hl.trans hb, by rw [← hv, ← hs, Nat.land_assoc, hm]⟩

theorem and_full_mask (b : Byte) : b &&& 0xFF = b :=
  BitVec.and_allOnes

/-- Eight bytes with the right framing decode. -/
theorem decode_of_framingRow (h : framingRow.selects bs = true) : ∃ i, decode bs = .frame i := by
  obtain ⟨hl, hz⟩ := (Row.selects_iff 8 _ _ bs rfl rfl).1 h
  match bs, hl with
  | [b0, ctrl, g, p3, p2, p1, p0, b7], _ =>
    have hframing : b0 &&& 0xFF = startByte ∧ b7 &&& 0xFF = endByte := by simpa using hz
    rw [and_full_mask, and_full_mask] at hframing
    obtain ⟨rfl, rfl⟩ := hframing
    exact ⟨_, decode_framed ctrl g p3 p2 p1 p0⟩

/-- A row that fixes all but some bits of the third byte selects nothing but response frames. -/
theorem responseBytes_of_selects {m st v : Byte}
    (h : (Row.mk 4 (frameNumber [0xFF, 0xFF, m, 0xFF]) (frameNumber [startByte, st, v, endByte])).selects bs = true) :
    ∃ u, bs = responseBytes st u ∧ u &&& m = v := by
  obtain ⟨hl, hz⟩ := (Row.selects_iff 4 _ _ bs rfl rfl).1 h
  match bs, hl with
  | [b0, b1, u, b3], _ =>
    have hbytes : b0 &&& 0xFF = startByte ∧ b1 &&& 0xFF = st ∧ u &&& m = v ∧ b3 &&& 0xFF = endByte := by
      simpa using hz
    rw [and_full_mask, and_full_mask, and_full_mask] at hbytes
    obtain ⟨rfl, rfl, hu, rfl⟩ := hbytes
    exact ⟨u, rfl, hu⟩

/-- What one of the three status rows selects is that frame. -/
theorem decode_of_statusRow {st : Byte} (hd : decode (responseBytes st 0x00) = .frame i)
    (h : (Row.mk 4 (frameNumber [0xFF, 0xFF, 0xFF, 0xFF]) (frameNumber [startByte, st, 0x00, endByte])).selects bs = true) :
    ∃ i, decode bs = .frame i := by
  obtain ⟨u, rfl, hu⟩ := responseBytes_of_selects h
  rw [and_full_mask] at hu
  exact ⟨i, hu ▸ hd⟩

/-- What the row of the query reply selects is such a reply. -/
theorem decode_of_usedRow (h : (rowOf (.respUsed 0)).selects bs = true) : ∃ i, decode bs = .frame i := by
  obtain ⟨u, rfl, hu⟩ := responseBytes_of_selects (m := 0xFE) (st := 0x00) (v := 0x00) h
  exact ⟨.respUsed u, decodeInvertsEncode (.respUsed u) ((Laws.fits_iff 0xFE 0x00 u).2 hu)⟩

/-- What a row of the table selects decodes. -/
theorem decode_of_selects (hr : r ∈ rowTable) (h : r.selects bs = true) : ∃ i, decode bs = .frame i := by
  rcases rowTable_framing r hr with ⟨hb, hm, hv⟩ | hr
  · exact decode_of_framingRow (Row.selects_coarser h hb hm hv)
  · simp only [List.mem_cons, List.not_mem_nil, or_false] at hr
    rcases hr with rfl | rfl | rfl | rfl
    · exact decode_of_statusRow (st := 0xFF) rfl h
    · exact decode_of_statusRow (st := 0xF0) rfl h
    · exact decode_of_statusRow (st := 0x0F) rfl h
    · exact decode_of_usedRow h

end Rows

/-- The bytes of a well-formed frame select its row. -/
theorem selects_encode : ∀ i, Laws.SelectsRow.Statement i
  | .move _ _ _ _ => Laws.SelectsRow.move _ _ _ _
  | .gotolim _ _ _ _ => Laws.SelectsRow.gotolim _ _ _ _
  | .query _ _ _ _ _ => Laws.SelectsRow.query _ _ _ _ _
  | .rsvGoto01 _ _ _ _ _ => Laws.SelectsRow.rsvGoto01 _ _ _ _ _
  | .rsvGoto10 _ _ _ _ _ => Laws.SelectsRow.rsvGoto10 _ _ _ _ _
  | .rsvGoto001 _ _ _ _ _ => Laws.SelectsRow.rsvGoto001 _ _ _ _ _
  | .rsvGoto0001 _ _ _ _ _ => Laws.SelectsRow.rsvGoto0001 _ _ _ _ _
  | .rsvGoto00001 _ _ _ _ _ => Laws.SelectsRow.rsvGoto00001 _ _ _ _ _
  | .rsvGoto000001 _ _ _ _ _ => Laws.SelectsRow.rsvGoto000001 _ _ _ _ _
  | .rsvGoto0000001 _ _ _ _ _ => Laws.SelectsRow.rsvGoto0000001 _ _ _ _ _
  | .rsvGoto00000001 _ _ _ _ _ => Laws.SelectsRow.rsvGoto00000001 _ _ _ _ _
  | .rsvGoto110 _ _ _ _ _ => Laws.SelectsRow.rsvGoto110 _ _ _ _ _
  | .rsvGoto1110 _ _ _ _ _ => Laws.SelectsRow.rsvGoto1110 _ _ _ _ _
  | .rsvGoto11110 _ _ _ _ _ => Laws.SelectsRow.rsvGoto11110 _ _ _ _ _
  | .rsvGoto111110 _ _ _ _ _ => Laws.SelectsRow.rsvGoto111110 _ _ _ _ _
  | .rsvGoto1111110 _ _ _ _ _ => Laws.SelectsRow.rsvGoto1111110 _ _ _ _ _
  | .rsvGoto11111110 _ _ _ _ _ => Laws.SelectsRow.rsvGoto11111110 _ _ _ _ _
  | .respReset => Laws.SelectsRow.respReset
  | .respOk => Laws.SelectsRow.respOk
  | .respLimit => Laws.SelectsRow.respLimit
  | .respUsed u => Laws.SelectsRow.respUsed u

/-- Bytes that decode select the row of their frame. -/
theorem selects_of_decode {bs : List Byte} {i : Instr} (h : decode bs = .frame i) : (rowOf i).selects bs = true := by
  obtain ⟨hw, rfl⟩ := encode_of_decode h
  exact selects_encode i hw

/-- Settles O3: what a row selects decodes, and then the row of its frame selects it too, so the two are one. -/
theorem decodedFrameSelectsItsOnlyRow : Obligations.DecodedFrameSelectsItsOnlyRow := by
  refine ⟨fun _ _ => selects_of_decode, fun bs i h => ?_⟩
  obtain ⟨j, hj⟩ := decode_of_selects (rowOf_mem_rowTable i) h
  exact ⟨j, hj, Row.eq_of_selects (rowOf_mem_rowTable j) (rowOf_mem_rowTable i) (selects_of_decode hj) h⟩

/-! ### The verdict, and written-out words -/

theorem decode_wrongStart {start ctrl g p3 p2 p1 p0 last : Byte} (h : start ≠ startByte) :
    decode [start, ctrl, g, p3, p2, p1, p0, last] = .rejected .wrongStart :=
  if_pos h

theorem decode_wrongEnd {ctrl g p3 p2 p1 p0 last : Byte} (h : last ≠ endByte) :
    decode [startByte, ctrl, g, p3, p2, p1, p0, last] = .rejected .wrongEnd := by
  rw [decode, decodeCommand, if_neg (not_not.2 rfl), if_pos h]

/-- Settles O4: the framing by the first two tests, and the other four by the frame of the fields. -/
theorem verdictOnEightBytes : Obligations.VerdictOnEightBytes := by
  intro b0 c g p3 p2 p1 p0 b7
  have hframed (q : Bool) (hq : c.getLsbD 0 = q) : decode [0x07, c, g, p3, p2, p1, p0, 0x0A] = .frame
      (commandFrame (ctrlAxis c) (ctrlDir c) (ctrlIgnored c) q g (countOf p3 p2 p1 p0)) :=
    hq ▸ decode_framed c g p3 p2 p1 p0
  refine ⟨decode_wrongStart, ?_, ?_, ?_, ?_, ?_⟩
  · rintro rfl he
    exact decode_wrongEnd he
  · rintro rfl rfl hq
    exact hframed true hq
  · rintro rfl rfl hq rfl
    exact hframed false hq
  · rintro rfl rfl hq rfl
    exact hframed false hq
  · rintro rfl rfl hq hon hoff
    refine ⟨_, (hframed false hq).trans ?_, (reservedGoto_spec hon hoff).2, rfl⟩
    rw [commandFrame_reserved hon hoff]
    rfl

/-- Settles O5: each word is one evaluation of the decoder. -/
theorem writtenOutWordsDecode : Obligations.WrittenOutWordsDecode := by
  unfold Obligations.WrittenOutWordsDecode
  decide

end Sys2Proof

namespace Sys2Proof.Machine

/-- Settles O8: the arm of each form starts a command as `MOVE` does (41_pulse_generator.md R143). -/
theorem reservedFormsActAsMove : Obligations.ReservedFormsActAsMove := by
  intro i axis dir ign g count s hi
  simp only [List.mem_cons, List.not_mem_nil, or_false] at hi
  rcases hi with rfl | rfl | rfl | rfl | rfl | rfl | rfl | rfl | rfl | rfl | rfl | rfl | rfl | rfl <;> rfl

/-! ### What `M_PARSE` marks -/

section Parse
variable {a : Axis} {d q : Bool} {ign : BitVec 4} {g : Byte} {c : Count} {s : State}

/-- The query bit alone tells the two kinds of received frame apart (30_encoding.md R90, test 3). -/
theorem isQuery_commandFrame :
    isQuery (commandFrame a d ign q g c) = q ∧ isCommand (commandFrame a d ign q g c) = !q := by
  refine commandFrame_induction (P := fun q _ i => isQuery i = q ∧ isCommand i = !q)
    (fun _ => ⟨rfl, rfl⟩) ⟨rfl, rfl⟩ ⟨rfl, rfl⟩ (fun g _ _ => ?_) q g
  refine reservedGoto_induction (P := fun i => isQuery i = false ∧ isCommand i = true)
    ?_ ?_ ?_ ?_ ?_ ?_ ?_ ?_ ?_ ?_ ?_ ?_ ?_ ?_ <;> intros <;> exact ⟨rfl, rfl⟩

/-- The captured bytes decode exactly if the last one is `END`: the `START` is not stored (30_encoding.md R81). -/
theorem decode_capture_iff {b : Payload} {P : Instr → Prop} :
    (∃ i, decode b.frame = .frame i ∧ P i) ↔ b.last = endByte ∧
      P (commandFrame (ctrlAxis b.ctrl) (ctrlDir b.ctrl) (ctrlIgnored b.ctrl) (ctrlQuery b.ctrl) b.gotoByte b.count) := by
  by_cases he : b.last = endByte
  · have hd := decode_framed b.ctrl b.gotoByte b.p3 b.p2 b.p1 b.p0
    rw [← he] at hd
    simp only [show decode b.frame = _ from hd, Decoded.frame.injEq, exists_eq_left', he, true_and]
    rfl
  · have hd : decode b.frame = .rejected .wrongEnd := decode_wrongEnd he
    simp [hd, he]

end Parse

/-- Settles O21: the verdict on the captured bytes is `END`, which `M_PARSE` tests, and then the query bit. -/
theorem parseAgreesWithTheDecoder : Obligations.ParseAgreesWithTheDecoder := by
  intro s he hm hc hq
  refine ⟨_, step_of_main s _ he.1 he.2 (mainRule_parse hm), ?_, ?_⟩
  · simp [decode_capture_iff, isQuery_commandFrame, State.parseRule, hc]
  · simp [decode_capture_iff, isQuery_commandFrame, State.parseRule, hq]

end Sys2Proof.Machine

/-! Bits 4..1 of a captured control byte: two states that differ only there run alike, with the same trace
(30_encoding.md R99). -/

namespace Sys2Proof.Machine

/-! ### Two states that differ in the buffer -/

/-- Two states that differ in the buffer, in a way that every tick keeps, show the same trace. -/
theorem trace_setBuf_of_step {R : Payload → Payload → Prop} (hsymm : ∀ b b', R b b' → R b' b)
    (hstep : ∀ {s t : State} {b : Payload}, R s.buf b → step s = .next t →
      ∃ b', step (s.setBuf b) = .next (t.setBuf b') ∧ R t.buf b')
    {s : State} {b : Payload} (h : R s.buf b) (k : Nat) : trace k (s.setBuf b) = trace k s := by
  induction k generalizing s b with
  | zero => rfl
  | succ k ih =>
    by_cases hnext : ∃ t, step s = .next t
    · obtain ⟨t, hs⟩ := hnext
      obtain ⟨b', hs', hb'⟩ := hstep h hs
      rw [trace_succ hs', trace_succ hs, tickObs_setBuf, ih hb']
    · have hstop : ¬∃ t, step (s.setBuf b) = .next t := by
        rintro ⟨t, ht⟩
        obtain ⟨_, hs, _⟩ := hstep (s := s.setBuf b) (hsymm _ _ h) ht
        exact hnext ⟨_, hs⟩
      rw [trace_of_stop hnext, trace_of_stop hstop]

/-! ### Buffers that differ in the ignored bits -/

/-- The two buffers are equal but for bits 4..1 of the control byte. -/
def Payload.SameRead (b b' : Payload) : Prop :=
  b' = { b with ctrl := b'.ctrl } ∧ b'.ctrl &&& 0xE1 = b.ctrl &&& 0xE1

section IgnoredBits
variable {p : PortIn} {s t : State} {b b' : Payload} {k : Nat}

theorem Payload.SameRead.refl (b : Payload) : b.SameRead b :=
  ⟨rfl, rfl⟩

theorem Payload.SameRead.symm (h : b.SameRead b') : b'.SameRead b := by
  obtain ⟨heq, hc⟩ := h
  exact ⟨by rw [heq], hc.symm⟩

/-- The fields with a meaning are read from the bits that the mask keeps (30_encoding.md R82). -/
theorem ctrl_fields_of_mask {c c' : Byte} (h : c' &&& 0xE1 = c &&& 0xE1) :
    ctrlAxis c' = ctrlAxis c ∧ ctrlDir c' = ctrlDir c ∧ ctrlQuery c' = ctrlQuery c := by
  have hmask (x : Byte) :
      ctrlAxis x = ctrlAxis (x &&& 0xE1) ∧ ctrlDir x = ctrlDir (x &&& 0xE1) ∧ ctrlQuery x = ctrlQuery (x &&& 0xE1) := by
    revert x
    decide
  obtain ⟨ha, hd, hq⟩ := hmask c
  obtain ⟨ha', hd', hq'⟩ := hmask c'
  rw [h] at ha' hd' hq'
  exact ⟨ha'.trans ha.symm, hd'.trans hd.symm, hq'.trans hq.symm⟩

/-- A byte written into both buffers leaves them alike. -/
theorem Payload.SameRead.write (h : b.SameRead b') {i : BitVec 3} {x : Byte} {c : Payload} (hw : b.write i x = some c) :
    ∃ c', b'.write i x = some c' ∧ c.SameRead c' := by
  obtain ⟨heq, hc⟩ := h
  have hi : i = 0 ∨ i = 1 ∨ i = 2 ∨ i = 3 ∨ i = 4 ∨ i = 5 ∨ i = 6 ∨ i = 7 := by clear hw; revert i; decide
  rw [heq]
  rcases hi with rfl | rfl | rfl | rfl | rfl | rfl | rfl | rfl <;> cases hw <;> refine ⟨_, rfl, rfl, ?_⟩
  · rfl
  all_goals exact hc

/-- `M_COLLECT` puts the same byte into both buffers. -/
theorem collectRule_sameRead (h : s.buf.SameRead b) (hs : collectRule s p = .next t) :
    ∃ b', collectRule (s.setBuf b) p = .next (t.setBuf b') ∧ t.buf.SameRead b' := by
  rcases collectRule_cases hs with ⟨hv, rfl⟩ | ⟨hv, c, hw, hlast⟩
  · exact ⟨b, collectRule_wait hv, h⟩
  obtain ⟨c', hw', hc'⟩ := h.write hw
  rcases hlast with ⟨h6, rfl⟩ | ⟨h6, rfl⟩
  · exact ⟨c', collectRule_last (s := s.setBuf b) hv hw' h6, hc'⟩
  · exact ⟨c', collectRule_more (s := s.setBuf b) hv hw' h6, hc'⟩

/-- `M_PARSE` reads of the control byte the query bit alone. -/
theorem State.parseRule_sameRead (h : s.buf.SameRead b) : (s.setBuf b).parseRule = s.parseRule.setBuf b := by
  obtain ⟨heq, hc⟩ := h
  obtain ⟨_, _, hq⟩ := ctrl_fields_of_mask hc
  have hlast : b.last = s.buf.last := by rw [heq]
  rw [State.parseRule_eq, State.parseRule_eq]
  simp only [State.setBuf, hlast, hq]

/-- `M_EXEC` reads of the control byte the axis and the direction. -/
theorem mainRule_exec_sameRead (h : s.buf.SameRead b) (hm : s.mstate = .exec) (hs : mainRule p s = .next t) :
    mainRule p (s.setBuf b) = .next (t.setBuf b) := by
  obtain ⟨heq, hc⟩ := h
  obtain ⟨ha, hd, _⟩ := ctrl_fields_of_mask hc
  have hg : b.gotoMode = s.buf.gotoMode := by rw [heq]; rfl
  have hcount : b.count = s.buf.count := by rw [heq]; rfl
  cases (mainRule_exec hm).symm.trans hs
  rw [mainRule_exec (s := s.setBuf b) hm]
  simp only [State.setBuf, ha, hd, hg, hcount]
  rfl

theorem mainRule_sameRead (h : s.buf.SameRead b) (hs : mainRule p s = .next t) :
    ∃ b', mainRule p (s.setBuf b) = .next (t.setBuf b') ∧ t.buf.SameRead b' := by
  by_cases hcol : s.mstate = .collect
  · rw [mainRule_collect (s := s.setBuf b) hcol]
    exact collectRule_sameRead h ((mainRule_collect hcol).symm.trans hs)
  have hbuf : t.buf = s.buf := by_contra fun hne => hcol ((MainMove.of_mainRule hs).buf_changed hne)
  refine ⟨b, ?_, hbuf ▸ h⟩
  by_cases hpar : s.mstate = .parse
  · cases (mainRule_parse hpar).symm.trans hs
    rw [mainRule_parse (s := s.setBuf b) hpar, State.parseRule_sameRead h]
  by_cases hex : s.mstate = .exec
  · exact mainRule_exec_sameRead h hex hs
  · exact mainRule_setBuf hcol hpar hex hs

/-- Every tick keeps the two states alike. -/
theorem step_sameRead (h : s.buf.SameRead b) (hs : step s = .next t) :
    ∃ b', step (s.setBuf b) = .next (t.setBuf b') ∧ t.buf.SameRead b' := by
  rcases step_cases hs with ⟨hr, rfl⟩ | ⟨hr, he, u, hu, rfl⟩ | ⟨hr, he, rfl⟩
  · exact ⟨State.reset.buf, step_of_reset (s.setBuf b) hr, .refl _⟩
  · obtain ⟨b', hu', hb'⟩ := mainRule_sameRead h hu
    exact ⟨b', step_of_main (s.setBuf b) _ hr he hu', hb'⟩
  · refine ⟨b, ?_, ?_⟩
    · rw [step_of_held (s.setBuf b) hr he, State.lsmRule_setBuf]
      rfl
    · rw [State.latch_buf, (LsmMove.of_lsmRule s).sameMain.buf]
      exact h

end IgnoredBits

/-- Settles O58: no rule reads the four bits, and no output shows the buffer. -/
theorem ignoredControlBitsAreNeverSeen : Obligations.IgnoredControlBitsAreNeverSeen := by
  intro s ctrl k h
  have hsame : s.buf.SameRead { s.buf with ctrl := ctrl } := ⟨rfl, h⟩
  exact trace_setBuf_of_step (R := Payload.SameRead) (fun _ _ => Payload.SameRead.symm) step_sameRead hsame k

end Sys2Proof.Machine

/-! The bytes sent: every tick sends the next byte of the frame in the transmit buffer or nothing, and a frame is built only
when the one before has gone (30_encoding.md R106, 43_response_encoder.md R186, R187). -/

namespace Sys2Proof.Machine

/-! ### Bytes of a trace -/

@[simp] theorem sentBytes_append (os os' : List Obs) : sentBytes (os ++ os') = sentBytes os ++ sentBytes os' :=
  List.filterMap_append

@[simp] theorem sentBytes_map_sent (bs : List Byte) : sentBytes (bs.map Obs.sent) = bs := by
  induction bs with
  | nil => rfl
  | cons b bs ih => exact congrArg (b :: ·) ih

/-- A change of an output is no byte. -/
theorem sentBytes_changeObs {before after : Bool} {o : Bool → Obs} (h : ∀ v, sentBytes [o v] = []) :
    sentBytes (changeObs before after o) = [] := by
  unfold changeObs
  split
  · rfl
  · exact h after

@[simp] theorem sentBytes_edgeObs (before after : Bool) (a : Axis) :
    sentBytes (changeObs before after (Obs.edge a)) = [] :=
  sentBytes_changeObs fun _ => rfl

@[simp] theorem sentBytes_dirObs (before after : Bool) : sentBytes (changeObs before after Obs.dir) = [] :=
  sentBytes_changeObs fun _ => rfl

theorem sentBytes_tickObs (s t : State) : sentBytes (tickObs s t) = s.sent.toList := by
  simp [tickObs]

/-! ### The frame in the transmit buffer -/

/-- What is left to send of the frame in the transmit buffer, while MAIN sends it. -/
def State.unsent (s : State) : List Byte :=
  if s.mstate = .tx then s.txBuf.bytes.drop s.txIdx.toNat else []

section Stream
variable {p : PortIn} {s t u : State} {k : Nat}

theorem State.unsent_of_tx (h : s.mstate = .tx) : s.unsent = s.txBuf.bytes.drop s.txIdx.toNat :=
  if_pos h

theorem State.unsent_of_not_tx (h : s.mstate ≠ .tx) : s.unsent = [] :=
  if_neg h

/-- At an index the buffer still holds the byte there and those after it. -/
theorem TxFrame.drop_eq (f : TxFrame) (i : BitVec 2) :
    f.bytes.drop i.toNat = f.read i :: f.bytes.drop (i.toNat + 1) := by
  have h : i = 0 ∨ i = 1 ∨ i = 2 ∨ i = 3 := by revert i; decide
  rcases h with rfl | rfl | rfl | rfl <;> rfl

theorem txIdx_succ_toNat {i : BitVec 2} (h : i ≠ 3) : (i + 1).toNat = i.toNat + 1 := by
  revert i
  decide

theorem State.sent_of_not_tx (h : s.mstate ≠ .tx) : s.sent = none := by
  simp [State.sent, State.txValid, h]

theorem State.sent_of_not_ready (h : s.input.txReady = false) : s.sent = none := by
  simp [State.sent, h]

theorem State.sent_of_ready (he : s.mainEn = true) (hm : s.mstate = .tx) (hr : s.input.txReady = true) :
    s.sent = some (s.txBuf.read s.txIdx) := by
  simp [State.sent, State.txValid, State.txData, he, hm, hr]

/-- `Transmission s u f`: what the tick from `s` to `u` sends, and what is then left to send, are what was left before and the
frame `f` built at this tick; `f` is empty if none is built (43_response_encoder.md R186). -/
def Transmission (s u : State) (f : List Byte) : Prop :=
  s.sent.toList ++ u.unsent = s.unsent ++ f

/-- Where nothing is being sent, before and after, no byte moves. -/
theorem Transmission.silent (hs : s.mstate ≠ .tx) (hu : u.mstate ≠ .tx) : Transmission s u [] := by
  rw [Transmission, State.sent_of_not_tx hs, State.unsent_of_not_tx hs, State.unsent_of_not_tx hu]
  rfl

/-- A frame that is built stands in the buffer as a whole. -/
theorem Transmission.build (hs : s.mstate ≠ .tx) (hu : u.mstate = .tx) (hi : u.txIdx = 0) :
    Transmission s u u.txBuf.bytes := by
  rw [Transmission, State.sent_of_not_tx hs, State.unsent_of_not_tx hs, State.unsent_of_tx hu, hi]
  rfl

theorem Transmission.wait (hn : s.sent = none) (hu : u.unsent = s.unsent) : Transmission s u [] := by
  rw [Transmission, hn, hu, List.append_nil]
  rfl

/-- The latch does not touch what is being sent. -/
theorem Transmission.latch {f : List Byte} (h : Transmission s t f) : Transmission s (s.latch p t) f := h

/-- MAIN's moves at an enabled tick; by the invariant a frame it builds is an emitted one. -/
theorem MainMove.transmission (he : s.mainEn = true) (h : MainMove s.input s t) (ht : t.Inv) :
    ∃ f, Transmission s t f ∧ (f = [] ∨ f ∈ emittedFrames) := by
  have hbuild (hs : s.mstate ≠ .tx) (hm : t.mstate = .tx) (hi : t.txIdx = 0) :
      ∃ f, Transmission s t f ∧ (f = [] ∨ f ∈ emittedFrames) :=
    ⟨_, .build hs hm hi, .inr (ht.frame_legal (by simp [hm]))⟩
  have hsilent (hs : s.mstate ≠ .tx) (hm : t.mstate ≠ .tx) :
      ∃ f, Transmission s t f ∧ (f = [] ∨ f ∈ emittedFrames) :=
    ⟨_, .silent hs hm, .inl rfl⟩
  cases h with
  | boot hm | resp hm | qresp hm => exact hbuild (by simp [hm]) rfl rfl
  | txWait hm hr => exact ⟨[], .wait (State.sent_of_not_ready hr) rfl, .inl rfl⟩
  | txByte hm hr hi =>
    refine ⟨[], ?_, .inl rfl⟩
    rw [Transmission, State.sent_of_ready he hm hr, State.unsent_of_tx hm, TxFrame.drop_eq, ← txIdx_succ_toNat hi,
      List.append_nil]
    exact congrArg (_ :: ·) (State.unsent_of_tx hm)
  | txLast hm hr hi =>
    refine ⟨[], ?_, .inl rfl⟩
    rw [Transmission, State.sent_of_ready he hm hr, State.unsent_of_tx hm, TxFrame.drop_eq, hi]
    rfl
  | exec hm =>
    refine hsilent (by simp [hm]) ?_
    rw [State.startCommand_mstate]
    split <;> nofun
  | pcheckLeave hm =>
    refine hsilent (by simp [hm]) ?_
    dsimp only
    split <;> nofun
  | phighWait hm | plowWait hm | joywaitCount hm | collectWait hm | collectByte hm =>
    exact hsilent (by simp [hm]) (by simp [hm])
  | _ hm => exact hsilent (by simp [hm]) nofun

/-- What every tick without reset does with the frame being sent; at a held tick nothing. -/
theorem State.Inv.transmission (h : s.Inv) (hr : s.input.rst = false) (hs : Machine.step s = .next u) :
    ∃ f, Transmission s u f ∧ (f = [] ∨ f ∈ emittedFrames) := by
  cases he : s.mainEn with
  | true =>
    obtain ⟨t, hmv, rfl⟩ := step_mainMove ⟨hr, he⟩ hs
    obtain ⟨f, hf, hmem⟩ := hmv.transmission he (h.mainMove (s.mainEn_iff.1 he).1 hmv)
    exact ⟨f, hf.latch, hmem⟩
  | false =>
    obtain ⟨t, hmv, rfl⟩ := step_lsmMove ⟨hr, he⟩ hs
    obtain ⟨_, _, _, hsent⟩ := s.no_transfer_of_held he
    refine ⟨[], .wait hsent ?_, .inl rfl⟩
    have hsame : SameMain s t := hmv.sameMain
    simp only [State.unsent, State.latch_mstate, State.latch_txBuf, State.latch_txIdx, hsame.mstate, hsame.txBuf,
      hsame.txIdx]

/-! ### The stream of a run -/

theorem State.NoReset.tail (hn : s.NoReset (k + 1)) (hs : Machine.step s = .next u) : u.NoReset k := by
  intro j hj
  rw [step_inputAt hs]
  exact hn (j + 1) (Nat.succ_lt_succ hj)

/-- The bytes a run sends are, as far as they go, what is left of the frame in the buffer and then whole frames. -/
theorem State.Inv.sentBytes_trace (h : s.Inv) (hn : s.NoReset k) :
    ∃ fs : List (List Byte), (∀ f ∈ fs, f ∈ emittedFrames) ∧
      sentBytes (trace k s) <+: s.unsent ++ fs.flatten := by
  induction k generalizing s with
  | zero => exact ⟨[], nofun, List.nil_prefix⟩
  | succ k ih =>
    obtain ⟨u, hs, hu⟩ := h.progress
    obtain ⟨fs, hfs, hpre⟩ := ih hu (hn.tail hs)
    obtain ⟨f, hf, hmem⟩ := h.transmission (hn 0 k.succ_pos) hs
    rw [trace_succ hs, sentBytes_append, sentBytes_tickObs]
    have hsplit : s.sent.toList ++ sentBytes (trace k u) <+: s.unsent ++ (f ++ fs.flatten) := by
      rw [← List.append_assoc, ← hf, List.append_assoc]
      exact (List.prefix_append_right_inj _).2 hpre
    rcases hmem with rfl | hmem
    · exact ⟨fs, hfs, hsplit⟩
    · exact ⟨f :: fs, List.forall_mem_cons.2 ⟨hmem, hfs⟩, hsplit⟩

/-- From `M_BOOT`, however long the handler holds it, the first frame is the boot notice (43_response_encoder.md R189). -/
theorem State.Inv.sentBytes_trace_boot (h : s.Inv) (hm : s.mstate = .boot) (hn : s.NoReset k) :
    ∃ fs : List (List Byte), (∀ f ∈ fs, f ∈ emittedFrames) ∧
      sentBytes (trace k s) <+: [0x07, 0xFF, 0x00, 0x0A] ++ fs.flatten := by
  induction k generalizing s with
  | zero => exact ⟨[], nofun, List.nil_prefix⟩
  | succ k ih =>
    obtain ⟨u, hs, hu⟩ := h.progress
    have hr : s.input.rst = false := hn 0 k.succ_pos
    rw [trace_succ hs, sentBytes_append, sentBytes_tickObs, State.sent_of_not_tx (by simp [hm])]
    cases he : s.mainEn with
    | true =>
      cases (step_of_main s _ hr he (mainRule_boot hm)).symm.trans hs
      exact hu.sentBytes_trace (hn.tail hs)
    | false =>
      obtain ⟨t, hmv, rfl⟩ := step_lsmMove ⟨hr, he⟩ hs
      exact ih hu (hmv.sameMain.mstate.trans hm) (hn.tail hs)

end Stream

/-! ### Whole frames and the beginning of one more -/

theorem length_emittedFrame {f : List Byte} (h : f ∈ emittedFrames) : f.length = 4 := by
  revert f
  decide

/-- The beginning of a list of frames is whole frames and the beginning of one more. -/
theorem frames_of_beginning {fs : List (List Byte)} (hfs : ∀ f ∈ fs, f ∈ emittedFrames) {bs : List Byte}
    (h : bs <+: fs.flatten) :
    ∃ (frames : List (List Byte)) (part : List Byte), bs = frames.flatten ++ part ∧
      (∀ f ∈ frames, f ∈ emittedFrames) ∧ part.length < 4 ∧ ∃ f ∈ emittedFrames, part <+: f := by
  induction fs generalizing bs with
  | nil =>
    obtain rfl := List.prefix_nil.1 h
    exact ⟨[], [], rfl, nofun, by decide, _, List.mem_cons_self, List.nil_prefix⟩
  | cons f fs ih =>
    obtain ⟨hf, hfs⟩ := List.forall_mem_cons.1 hfs
    rw [List.flatten_cons] at h
    rcases Nat.lt_or_ge bs.length 4 with hlt | hge
    · refine ⟨[], bs, rfl, nofun, hlt, f, hf, List.prefix_of_prefix_length_le h (List.prefix_append f _) ?_⟩
      rw [length_emittedFrame hf]
      exact hlt.le
    · obtain ⟨rest, rfl⟩ : f <+: bs :=
        List.prefix_of_prefix_length_le (List.prefix_append f _) h (by rwa [length_emittedFrame hf])
      obtain ⟨frames, part, rfl, hframes, hpart⟩ := ih hfs ((List.prefix_append_right_inj f).1 h)
      exact ⟨f :: frames, part, (List.append_assoc _ _ _).symm, List.forall_mem_cons.2 ⟨hf, hframes⟩, hpart⟩

/-- Settles O40: the stream after a reset tick begins as the boot notice and whole frames after it do. -/
theorem transmittedStreamIsWholeFrames : Obligations.TransmittedStreamIsWholeFrames := by
  intro s t k hv hn _
  obtain ⟨fs, hfs, hpre⟩ := (inv_resetTick hv).sentBytes_trace_boot rfl hn
  refine ⟨frames_of_beginning (fs := _ :: fs) (List.forall_mem_cons.2 ⟨bootFrame_mem, hfs⟩) hpre, ?_⟩
  exact hpre.take 4

end Sys2Proof.Machine

/-! Undisturbed runs: with no reset and no limit edge MAIN runs at every tick, and what it does depends on the port samples
alone, not on the synchroniser or on the environment's clock. `MainRun` says where such a run leads and what it shows, and
runs are put together from ticks. -/

namespace Sys2Proof.Machine

/-! ### The environment -/

/-- The elements that every tick moves on, whatever the agents do (10_state.md R33; log entry 2). -/
structure Clock where
  limMeta : Bool
  limS : Bool
  limPrev : Bool
  inputs : List PortIn
  tick : Nat

def State.clock (s : State) : Clock :=
  ⟨s.limMeta, s.limS, s.limPrev, s.inputs, s.tick⟩

/-- The state at another point of the environment. -/
def State.withClock (s : State) (c : Clock) : State :=
  { s with limMeta := c.limMeta, limS := c.limS, limPrev := c.limPrev, inputs := c.inputs, tick := c.tick }

/-- For `k` ticks there is no reset and no limit edge, and every port sample has the property `Q`. -/
structure State.Undisturbed (s : State) (Q : PortIn → Prop) (k : Nat) : Prop where
  no_reset : s.NoReset k
  samples : ∀ j < k, Q (s.inputAt j)
  no_rise : 0 < k → s.LimitNoRise k

section Undisturbed
variable {Q : PortIn → Prop} {s t u : State} {k : Nat}

theorem State.Undisturbed.enabled (h : s.Undisturbed Q (k + 1)) : s.Enabled :=
  ⟨h.no_reset 0 k.succ_pos, (h.no_rise k.succ_pos).1⟩

theorem State.Undisturbed.sample (h : s.Undisturbed Q (k + 1)) : Q s.input :=
  h.samples 0 k.succ_pos

/-- Without a limit edge nothing becomes pending (60_exceptions.md R221). -/
theorem State.LimitNoRise.nextLimPend (h : s.LimitNoRise k) : s.nextLimPend = false := by
  obtain ⟨he, hprev, _⟩ := h
  obtain ⟨hl, _⟩ := s.mainEn_iff.1 he
  refine Bool.eq_false_iff.2 fun hn => ?_
  rcases s.nextLimPend_iff.1 hn with ⟨hs, hp⟩ | ⟨_, hidle⟩
  · simp [hprev hs] at hp
  · exact hidle hl

/-- A limit input that does not rise does not rise after a tick either, and MAIN is still not held. -/
theorem State.LimitNoRise.step (h : s.LimitNoRise (k + 2)) (hr : s.input.rst = false) (hs : step s = .next u) :
    u.LimitNoRise (k + 1) := by
  have hpend : s.nextLimPend = false := State.LimitNoRise.nextLimPend h
  obtain ⟨he, _, hmeta, hin, hrise⟩ := h
  have hat (j : Nat) : u.inputAt j = s.inputAt (j + 1) := step_inputAt hs j
  obtain ⟨t, hmv, rfl⟩ := step_mainMove ⟨hr, he⟩ hs
  have hidle : t.lstate = .idle := hmv.lsm_unchanged.1.trans (s.mainEn_iff.1 he).1
  refine ⟨(State.mainEn_iff _).2 ⟨hidle, hpend⟩, hmeta, hin, ?_, fun j hj => ?_⟩
  · rw [hat]
    exact hrise 0 (by omega)
  · rw [hat, hat]
    exact hrise (j + 1) (by omega)

theorem State.Undisturbed.step (h : s.Undisturbed Q (k + 1)) (hs : Machine.step s = .next u) : u.Undisturbed Q k where
  no_reset := State.NoReset.tail h.no_reset hs
  samples := fun j hj => step_inputAt hs j ▸ h.samples (j + 1) (Nat.succ_lt_succ hj)
  no_rise := fun hk => by
    obtain ⟨m, rfl⟩ := Nat.exists_eq_add_of_lt hk
    rw [Nat.zero_add] at h ⊢
    exact State.LimitNoRise.step (h.no_rise (Nat.succ_pos _)) h.enabled.1 hs

/-- A run takes one listed sample and counts one tick at a time. -/
theorem ticks_clock (h : ticks k s = .next t) : t.inputs = s.inputs.drop k ∧ t.tick = s.tick + k := by
  induction k generalizing s with
  | zero => cases h; exact ⟨rfl, rfl⟩
  | succ k ih =>
    cases hs : Machine.step s with
    | next u =>
      rw [ticks_succ hs] at h
      obtain ⟨hi, ht⟩ := step_clock hs
      obtain ⟨hi', ht'⟩ := ih h
      exact ⟨by rw [hi', hi, List.drop_tail], by omega⟩
    | fault f => simp [ticks, hs] at h
    | refused r => simp [ticks, hs] at h

end Undisturbed

/-! ### What a tick shows -/

/-- The changes of the output registers from one state to another. -/
def outputObs (s t : State) : List Obs :=
  changeObs s.stepX t.stepX (Obs.edge .x) ++ changeObs s.stepY t.stepY (Obs.edge .y) ++
    changeObs s.stepZ t.stepZ (Obs.edge .z) ++ changeObs s.dirOut t.dirOut Obs.dir

theorem tickObs_eq (s t : State) : tickObs s t = s.sent.toList.map Obs.sent ++ outputObs s t := by
  simp [tickObs, outputObs]

@[simp] theorem changeObs_same (v : Bool) (o : Bool → Obs) : changeObs v v o = [] :=
  if_pos rfl

/-! ### Runs put together from ticks -/

/-- `MainRun Q k s x os`: undisturbed for `k` ticks, with port samples that have `Q`, MAIN takes `s` to `x` and shows `os`,
wherever the environment stands. -/
def MainRun (Q : PortIn → Prop) (k : Nat) (s x : State) (os : List Obs) : Prop :=
  ∀ (c : Clock) (m : Nat), (s.withClock c).Undisturbed Q (k + m) →
    ∃ c', ticks k (s.withClock c) = .next (x.withClock c') ∧ trace k (s.withClock c) = os ∧
      (x.withClock c').Undisturbed Q m

namespace MainRun
variable {Q : PortIn → Prop} {s x y : State} {j k : Nat} {os os' : List Obs}

theorem refl : MainRun Q 0 s s [] :=
  fun c m h => ⟨c, rfl, rfl, by rwa [Nat.zero_add] at h⟩

/-- One run after the other. -/
theorem trans {n : Nat} {os'' : List Obs} (h : MainRun Q j s x os) (h' : MainRun Q k x y os')
    (hn : n = j + k := by omega) (hos : os'' = os ++ os' := by simp) : MainRun Q n s y os'' := by
  subst hn hos
  intro c m hu
  rw [Nat.add_assoc] at hu
  obtain ⟨c', ht, htr, hu'⟩ := h c (k + m) hu
  obtain ⟨c'', ht', htr', hu''⟩ := h' c' m hu'
  exact ⟨c'', (ticks_add ht).trans ht', by rw [trace_add ht, htr, htr'], hu''⟩

/-- The run of a state at its own point of the environment. -/
theorem run (h : MainRun Q k s x os) (hu : s.Undisturbed Q k) :
    ∃ c, ticks k s = .next (x.withClock c) ∧ trace k s = os := by
  obtain ⟨c, ht, htr, _⟩ := h s.clock 0 hu
  exact ⟨c, ht, htr⟩

/-- One tick of MAIN's rule, which leaves the pending latch at 0. -/
theorem tick (hm : ∀ p c, Q p → mainRule p (s.withClock c) = .next (x.withClock c))
    (hobs : ∀ c c', (s.withClock c).mainEn = true → Q (s.withClock c).input →
      tickObs (s.withClock c) (x.withClock c') = os)
    (hpend : x.limPend = s.limPend := by rfl) : MainRun Q 1 s x os := by
  intro c m hu
  rw [Nat.add_comm] at hu
  have he : (s.withClock c).Enabled := hu.enabled
  have hpend' : (s.withClock c).nextLimPend = x.limPend := by
    rw [State.LimitNoRise.nextLimPend (hu.no_rise m.succ_pos), hpend]
    exact ((State.mainEn_iff _).1 he.2).2.symm
  have hs := step_of_main _ _ he.1 he.2 (hm _ c hu.sample)
  have ht : (s.withClock c).latch (s.withClock c).input (x.withClock c) =
      x.withClock ⟨(s.withClock c).input.limitIn, c.limMeta, c.limS, c.inputs.tail, c.tick + 1⟩ := by
    simp only [State.latch, hpend']
    rfl
  rw [ht] at hs
  refine ⟨_, ticks_succ hs, ?_, hu.step hs⟩
  rw [trace_succ hs, hobs _ _ he.2 hu.sample]
  exact List.append_nil os

/-- A tick outside `M_TX` shows the changes of the outputs alone. -/
theorem tick_outputs (hm : ∀ p c, Q p → mainRule p (s.withClock c) = .next (x.withClock c)) (htx : s.mstate ≠ .tx)
    (hpend : x.limPend = s.limPend := by rfl) : MainRun Q 1 s x (outputObs s x) :=
  tick hm (fun c _ _ _ => by rw [tickObs_eq, State.sent_of_not_tx (s := s.withClock c) htx]; rfl) hpend

/-- A tick outside `M_TX` that writes no output shows nothing. -/
theorem tick_silent (hm : ∀ p c, Q p → mainRule p (s.withClock c) = .next (x.withClock c)) (htx : s.mstate ≠ .tx)
    (hobs : outputObs s x = []) (hpend : x.limPend = s.limPend := by rfl) : MainRun Q 1 s x [] :=
  hobs ▸ tick_outputs hm htx hpend

end MainRun

theorem outputObs_self (s : State) : outputObs s s = [] := by
  simp [outputObs]

/-! ### The burst -/

/-- The observations of `n` pairs on an axis, each a rise and a fall. -/
def pulsePairs (a : Axis) (n : Nat) : List Obs :=
  (List.replicate n [Obs.edge a true, Obs.edge a false]).flatten

/-- A burst that is not aborted stands before its next pulse: the active step output is at 0. -/
structure State.BurstStart (s : State) : Prop where
  checking : s.mstate = .pcheck
  continuing : s.keepPulsing = true
  phase_pos : 1 ≤ s.params.phaseTicks
  axis : s.activeAxis ≠ .reserved
  low : s.stepOf s.activeAxis = false

section Burst
variable {Q : PortIn → Prop} {s : State}

/-- Driving the active step output to the other level is one edge of its axis. -/
theorem outputObs_driveStep {v : Bool} (ha : s.activeAxis ≠ .reserved) (hv : s.stepOf s.activeAxis = !v) :
    outputObs s (s.driveStep v) = [Obs.edge s.activeAxis v] := by
  cases hax : s.activeAxis with
  | reserved => exact absurd hax ha
  | x | y | z =>
    rw [hax] at hv
    simp only [State.stepOf] at hv
    simp [outputObs, State.driveStep, hax, hv, changeObs]

theorem State.driveStep_driveStep (s : State) (v v' : Bool) : (s.driveStep v).driveStep v' = s.driveStep v' := by
  cases h : s.activeAxis <;> simp [State.driveStep, h]

/-- Lowering an output that is at 0 changes nothing. -/
theorem State.driveStep_low (hl : s.stepOf s.activeAxis = false) : s.driveStep false = s := by
  have hlow (a : Axis) (ha : s.activeAxis = a) : false = s.stepOf a := ha ▸ hl.symm
  have hx : (if s.activeAxis = .x then false else s.stepX) = s.stepX := ite_eq_right_iff.2 (hlow .x)
  have hy : (if s.activeAxis = .y then false else s.stepY) = s.stepY := ite_eq_right_iff.2 (hlow .y)
  have hz : (if s.activeAxis = .z then false else s.stepZ) = s.stepZ := ite_eq_right_iff.2 (hlow .z)
  rw [State.driveStep, hx, hy, hz]

theorem mainRule_phaseWait {p : PortIn} (hm : s.mstate = .phigh ∨ s.mstate = .plow) (hc : 1 < s.mCnt) :
    mainRule p s = .next { s with mCnt := s.mCnt - 1 } := by
  rcases hm with hm | hm
  · rw [mainRule_phigh hm, State.phighRule_wait hc]
  · rw [mainRule_plow hm, State.plowRule_wait hc]

theorem mainRule_phighEnd {p : PortIn} (hm : s.mstate = .phigh) (hc : s.mCnt ≤ 1) :
    mainRule p s = .next { s.driveStep false with mCnt := s.params.phaseTicks, mstate := .plow } := by
  rw [mainRule_phigh hm, State.phighRule_end hc]

theorem mainRule_plowEnd {p : PortIn} (hm : s.mstate = .plow) (hc : s.mCnt ≤ 1) :
    mainRule p s = .next { s with pulseRem := s.pulseRem - 1, mstate := .pcheck } := by
  rw [mainRule_plow hm, State.plowRule_end hc]

theorem mainRule_pcheckStart {p : PortIn} (hm : s.mstate = .pcheck) (hk : s.keepPulsing = true) (hr : s.pulseRem ≠ 0) :
    mainRule p s = .next { s.driveStep true with mCnt := s.params.phaseTicks, mstate := .phigh } := by
  rw [mainRule_pcheck hm, State.pcheckRule_start hk hr]

theorem mainRule_pcheckDone {p : PortIn} (hm : s.mstate = .pcheck) (hk : s.keepPulsing = true) (hr : s.pulseRem = 0) :
    mainRule p s = .next { s with mstate := if s.cmdPend = true then .resp else .cycleEnd } := by
  rw [mainRule_pcheck hm, State.pcheckRule_leave (.inr hr), hk]

namespace MainRun

/-- A phase waits until its counter is at 1 (41_pulse_generator.md R137, R138). -/
theorem phaseWait (hm : s.mstate = .phigh ∨ s.mstate = .plow) (n : Nat) :
    MainRun Q n { s with mCnt := n + 1 } { s with mCnt := 1 } [] := by
  induction n with
  | zero => exact refl
  | succ n ih =>
    have hcount : MainRun Q 1 { s with mCnt := n + 2 } { s with mCnt := n + 1 } [] := by
      refine tick_silent (fun _ _ _ => mainRule_phaseWait hm ?_) ?_ (outputObs_self s)
      · exact Nat.le_add_left 2 n
      · rcases hm with hm | hm <;> simp [hm]
    exact hcount.trans ih

/-- The high phase with its falling edge takes `PHASE_TICKS` ticks (41_pulse_generator.md R137). -/
theorem highPhase (hm : s.mstate = .phigh) (hc : s.mCnt = s.params.phaseTicks) (hp : 1 ≤ s.params.phaseTicks)
    (ha : s.activeAxis ≠ .reserved) (hs : s.stepOf s.activeAxis = true) :
    MainRun Q s.params.phaseTicks s { s.driveStep false with mCnt := s.params.phaseTicks, mstate := .plow }
      [Obs.edge s.activeAxis false] := by
  obtain ⟨n, hn⟩ := Nat.exists_eq_add_of_le' hp
  have hwait : MainRun Q n s { s with mCnt := 1 } [] := by
    have h := phaseWait (Q := Q) (.inl hm) n
    rwa [← hn, ← hc] at h
  have hend : MainRun Q 1 { s with mCnt := 1 } { s.driveStep false with mCnt := s.params.phaseTicks, mstate := .plow }
      [Obs.edge s.activeAxis false] := by
    rw [← outputObs_driveStep (v := false) ha hs]
    exact tick_outputs (fun _ _ _ => mainRule_phighEnd hm le_rfl) (by simp [hm])
  exact hwait.trans hend

/-- The low phase takes `PHASE_TICKS` ticks and counts the pair (41_pulse_generator.md R138). -/
theorem lowPhase (hm : s.mstate = .plow) (hc : s.mCnt = s.params.phaseTicks) (hp : 1 ≤ s.params.phaseTicks) :
    MainRun Q s.params.phaseTicks s { s with mCnt := 1, pulseRem := s.pulseRem - 1, mstate := .pcheck } [] := by
  obtain ⟨n, hn⟩ := Nat.exists_eq_add_of_le' hp
  have hwait : MainRun Q n s { s with mCnt := 1 } [] := by
    have h := phaseWait (Q := Q) (.inr hm) n
    rwa [← hn, ← hc] at h
  have hend : MainRun Q 1 { s with mCnt := 1 } { s with mCnt := 1, pulseRem := s.pulseRem - 1, mstate := .pcheck } [] :=
    tick_silent (fun _ _ _ => mainRule_plowEnd hm le_rfl) (by simp [hm]) (outputObs_self s)
  exact hwait.trans hend

/-- One pulse of a burst: a pair in `2P + 1` ticks (41_pulse_generator.md R140). -/
theorem pulse (h : s.BurstStart) (hr : s.pulseRem ≠ 0) :
    MainRun Q (2 * s.params.phaseTicks + 1) s { s with mCnt := 1, pulseRem := s.pulseRem - 1 }
      [Obs.edge s.activeAxis true, Obs.edge s.activeAxis false] := by
  obtain ⟨hm, hk, hp, ha, hl⟩ := h
  have hup : (s.driveStep true).stepOf s.activeAxis = true := by
    rw [State.stepOf_driveStep, if_pos ⟨rfl, ha⟩]
  have hdown : (s.driveStep true).driveStep false = s := by
    rw [State.driveStep_driveStep, State.driveStep_low hl]
  have hstart : MainRun Q 1 s { s.driveStep true with mCnt := s.params.phaseTicks, mstate := .phigh }
      [Obs.edge s.activeAxis true] := by
    rw [← outputObs_driveStep (v := true) ha hl]
    exact tick_outputs (fun _ _ _ => mainRule_pcheckStart hm hk hr) (by simp [hm])
  have hhigh : MainRun Q s.params.phaseTicks { s.driveStep true with mCnt := s.params.phaseTicks, mstate := .phigh }
      { (s.driveStep true).driveStep false with mCnt := s.params.phaseTicks, mstate := .plow }
      [Obs.edge s.activeAxis false] :=
    highPhase (s := { s.driveStep true with mCnt := s.params.phaseTicks, mstate := .phigh }) rfl rfl hp ha hup
  have hlow : MainRun Q s.params.phaseTicks { s with mCnt := s.params.phaseTicks, mstate := .plow }
      { s with mCnt := 1, pulseRem := s.pulseRem - 1, mstate := .pcheck } [] :=
    lowPhase (s := { s with mCnt := s.params.phaseTicks, mstate := .plow }) rfl rfl hp
  rw [hdown] at hhigh
  rw [← hm] at hlow
  have hpulse : MainRun Q (s.params.phaseTicks + s.params.phaseTicks) _ _ [Obs.edge s.activeAxis false] :=
    hhigh.trans hlow
  exact hstart.trans hpulse

/-- All pulses of a burst (41_pulse_generator.md R139, R140). -/
theorem pulses (h : s.BurstStart) {n : Nat} (hn : s.pulseRem.toNat = n) :
    MainRun Q (n * (2 * s.params.phaseTicks + 1)) s
      { s with mCnt := if s.pulseRem = 0 then s.mCnt else 1, pulseRem := 0 } (pulsePairs s.activeAxis n) := by
  induction n generalizing s with
  | zero =>
    have hr : s.pulseRem = 0 := BitVec.eq_of_toNat_eq hn
    rw [if_pos hr, ← hr, Nat.zero_mul]
    exact refl
  | succ n ih =>
    have hr : s.pulseRem ≠ 0 := by
      intro hr
      simp [hr] at hn
    have hrem : (s.pulseRem - 1).toNat = n := by bv_omega
    have hrest := ih (s := { s with mCnt := 1, pulseRem := s.pulseRem - 1 }) { h with } hrem
    rw [ite_self] at hrest
    rw [if_neg hr]
    exact (pulse h hr).trans hrest (by rw [Nat.succ_mul, Nat.add_comm]) rfl

/-- A burst that nothing aborts, up to the state its caller asks for (41_pulse_generator.md R136, R145). -/
theorem burst (h : s.BurstStart) :
    MainRun Q (s.pulseRem.toNat * (2 * s.params.phaseTicks + 1) + 1) s
      { s with
        mCnt := if s.pulseRem = 0 then s.mCnt else 1
        pulseRem := 0
        mstate := if s.cmdPend = true then .resp else .cycleEnd } (pulsePairs s.activeAxis s.pulseRem.toNat) := by
  have hleave : MainRun Q 1 { s with mCnt := if s.pulseRem = 0 then s.mCnt else 1, pulseRem := 0 }
      { s with
        mCnt := if s.pulseRem = 0 then s.mCnt else 1
        pulseRem := 0
        mstate := if s.cmdPend = true then .resp else .cycleEnd } [] :=
    tick_silent (fun _ _ _ => mainRule_pcheckDone h.checking h.continuing rfl) (by simp [h.checking]) (outputObs_self s)
  exact (pulses h rfl).trans hleave

end MainRun

/-- With the invariant a burst that is at its check starts with its output at 0. -/
theorem State.Inv.burstStart (h : s.Inv) (hm : s.mstate = .pcheck) (hk : s.keepPulsing = true) (hl : s.lstate = .idle) :
    s.BurstStart where
  checking := hm
  continuing := hk
  phase_pos := h.params_valid
  axis := h.burst_axis (by rw [hm]; rfl)
  low := Bool.eq_false_iff.2 (h.stepOf_ne_true (by simp [hm]) (by simp [hl]) _)

end Burst

/-- Settles O29: the burst is its pulses, one after the other, and the tick that leaves it. -/
theorem burstEmitsExactlyItsCount : Obligations.BurstEmitsExactlyItsCount := by
  intro s hinv hm hk hn hl
  have hidle : s.lstate = .idle := (s.mainEn_iff.1 hl.1).1
  obtain ⟨c, ht, htr⟩ := (MainRun.burst (Q := fun _ => True) (hinv.burstStart hm hk hidle)).run
    ⟨hn, fun _ _ => trivial, fun _ => hl⟩
  obtain ⟨hi, hk⟩ := ticks_clock ht
  refine ⟨_, ht, ?_, htr⟩
  rw [← hi, ← hk]
  rfl

end Sys2Proof.Machine

/-! Whole commands: from `M_EXEC` through the burst, if the axis has an output, to the response and the end of the cycle
(41_pulse_generator.md R131, R132, R141, 43_response_encoder.md R182, R186). -/

namespace Sys2Proof.Machine

/-! ### Sending a frame -/

/-- The link takes a byte at this sample (20_memory.md R57). -/
abbrev LinkTakes (p : PortIn) : Prop :=
  p.txReady = true

section Send
variable {s : State}

theorem mainRule_txByte {p : PortIn} (hm : s.mstate = .tx) (hr : LinkTakes p) (hi : s.txIdx ≠ 3) :
    mainRule p s = .next { s with txIdx := s.txIdx + 1 } := by
  rw [mainRule_tx hm, State.txRule, if_pos hr, if_neg hi]

theorem mainRule_txLast {p : PortIn} (hm : s.mstate = .tx) (hr : LinkTakes p) (hi : s.txIdx = 3) :
    mainRule p s = .next { s with mstate := .cycleEnd } := by
  rw [mainRule_tx hm, State.txRule, if_pos hr, if_pos hi]

/-- A tick at which the link takes a byte and no output changes shows that byte. -/
theorem tickObs_of_taken {t : State} (he : s.mainEn = true) (hm : s.mstate = .tx) (hr : LinkTakes s.input)
    (ho : outputObs s t = []) : tickObs s t = [Obs.sent (s.txBuf.read s.txIdx)] := by
  rw [tickObs_eq, State.sent_of_ready he hm hr, ho]
  rfl

namespace MainRun

/-- One byte of the frame (43_response_encoder.md R186). -/
theorem sendByte (hm : s.mstate = .tx) (i : BitVec 2) (hi : i ≠ 3) :
    MainRun LinkTakes 1 { s with txIdx := i } { s with txIdx := i + 1 } [Obs.sent (s.txBuf.read i)] :=
  tick (fun _ _ hr => mainRule_txByte hm hr hi) fun _ _ he hr => tickObs_of_taken he hm hr (outputObs_self s)

/-- The fourth byte ends the cycle (43_response_encoder.md R186). -/
theorem sendLast (hm : s.mstate = .tx) :
    MainRun LinkTakes 1 { s with txIdx := 3 } { s with txIdx := 3, mstate := .cycleEnd } [Obs.sent s.txBuf.b3] :=
  tick (fun _ _ hr => mainRule_txLast hm hr rfl) fun _ _ he hr => tickObs_of_taken he hm hr (outputObs_self s)

/-- A whole frame, sent from its first byte to a link that takes every byte. -/
theorem sendFrame (hm : s.mstate = .tx) :
    MainRun LinkTakes 4 { s with txIdx := 0 } { s with txIdx := 3, mstate := .cycleEnd } (s.txBuf.bytes.map Obs.sent) := by
  have h01 : MainRun LinkTakes 2 { s with txIdx := 0 } { s with txIdx := 2 } [Obs.sent s.txBuf.b0, Obs.sent s.txBuf.b1] :=
    (sendByte hm 0 (by decide)).trans (sendByte hm 1 (by decide)) rfl rfl
  have h23 : MainRun LinkTakes 2 { s with txIdx := 2 } { s with txIdx := 3, mstate := .cycleEnd }
      [Obs.sent s.txBuf.b2, Obs.sent s.txBuf.b3] :=
    (sendByte hm 2 (by decide)).trans (sendLast hm) rfl rfl
  exact h01.trans h23 rfl rfl

/-- A command that no unexpected limit ended is answered `RESP.OK`, and its cycle ends, in six ticks
(43_response_encoder.md R182, 44_control_loop.md R205). -/
theorem answerOk (hm : s.mstate = .resp) (hh : s.limitHit = false) :
    MainRun LinkTakes 6 s
      { s.clearCycleFlags with txBuf := ⟨0x07, 0xF0, 0x00, 0x0A⟩, txIdx := 3, mstate := .poll }
      ([0x07, 0xF0, 0x00, 0x0A].map Obs.sent) := by
  have hbuild : MainRun LinkTakes 1 s (s.buildFrame 0xF0 0x00) [] := by
    refine tick_silent (fun p c _ => ?_) (by simp [hm]) (outputObs_self s)
    have h := mainRule_resp (p := p) (s := s.withClock c) hm
    rwa [show (s.withClock c).limitHit = false from hh] at h
  have hsend : MainRun LinkTakes 4 (s.buildFrame 0xF0 0x00)
      { s.buildFrame 0xF0 0x00 with txIdx := 3, mstate := .cycleEnd } ([0x07, 0xF0, 0x00, 0x0A].map Obs.sent) :=
    sendFrame (s := s.buildFrame 0xF0 0x00) rfl
  have hend : MainRun LinkTakes 1 { s.buildFrame 0xF0 0x00 with txIdx := 3, mstate := .cycleEnd }
      { s.clearCycleFlags with txBuf := ⟨0x07, 0xF0, 0x00, 0x0A⟩, txIdx := 3, mstate := .poll } [] :=
    tick_silent (fun _ _ _ => mainRule_cycleEnd rfl) nofun (outputObs_self s)
  have hbuilt : MainRun LinkTakes 5 _ _ ([0x07, 0xF0, 0x00, 0x0A].map Obs.sent) := hbuild.trans hsend
  exact hbuilt.trans hend

end MainRun
end Send

/-! ### What a trace counts -/

section Count
variable (a b : Axis) (v : Bool)

@[simp] theorem edges_append (os os' : List Obs) : edges b v (os ++ os') = edges b v os + edges b v os' :=
  List.countP_append

@[simp] theorem edges_map_sent (bs : List Byte) : edges b v (bs.map Obs.sent) = 0 := by
  simp [edges]

@[simp] theorem edges_dirObs (before after : Bool) : edges b v (changeObs before after Obs.dir) = 0 := by
  unfold changeObs
  split <;> rfl

theorem pulsePairs_succ (n : Nat) : pulsePairs a (n + 1) = [Obs.edge a true, Obs.edge a false] ++ pulsePairs a n :=
  rfl

/-- `n` pairs are `n` edges of either level of their axis and none of another. -/
@[simp] theorem edges_pulsePairs (n : Nat) : edges b v (pulsePairs a n) = if b = a then n else 0 := by
  induction n with
  | zero => simp [pulsePairs, edges]
  | succ n ih =>
    rw [pulsePairs_succ, edges_append, ih]
    cases v <;> by_cases h : b = a <;> simp [edges, h, Ne.symm, Nat.add_comm]

@[simp] theorem sentBytes_pulsePairs (n : Nat) : sentBytes (pulsePairs a n) = [] := by
  induction n with
  | zero => rfl
  | succ n ih => rw [pulsePairs_succ, sentBytes_append, ih]; rfl

end Count

/-! ### From `M_EXEC` to the next poll -/

section Command
variable {s : State} {k n : Nat}

theorem CalmFor.undisturbed (h : CalmFor k s) : s.Undisturbed LinkTakes k :=
  ⟨h.no_reset, h.link_ready, fun _ => h.limit_no_rise⟩

/-- The state after `M_EXEC` for the fields in the buffer (41_pulse_generator.md R131). -/
def State.started (s : State) : State :=
  s.startCommand (ctrlAxis s.buf.ctrl) (ctrlDir s.buf.ctrl) s.buf.gotoMode s.buf.count

/-- The tick of `M_EXEC` shows the direction output, if that changes. -/
theorem MainRun.start {Q : PortIn → Prop} (hm : s.mstate = .exec) :
    MainRun Q 1 s s.started (changeObs s.dirOut (ctrlDir s.buf.ctrl) Obs.dir) := by
  have hobs : outputObs s s.started = changeObs s.dirOut (ctrlDir s.buf.ctrl) Obs.dir := by
    simp [outputObs, State.started]
  exact hobs ▸ tick_outputs (fun _ _ _ => mainRule_exec hm) (by simp [hm])

/-- A command whose `n` pairs take `j` ticks is done seven ticks after them; what PULSE leaves in its two registers is not
read again. -/
theorem CommandReady.done {j m : Nat} {r : Count} (h : CommandReady k s) (hk : k = j + 7)
    (hp : MainRun LinkTakes j s.started { s.started with mCnt := m, pulseRem := r, mstate := .resp }
      (pulsePairs (ctrlAxis s.buf.ctrl) n)) :
    ∃ t, CommandDone k s t (ctrlAxis s.buf.ctrl) (ctrlDir s.buf.ctrl) n := by
  have hanswer := MainRun.answerOk (s := { s.started with mCnt := m, pulseRem := r, mstate := .resp }) rfl h.no_limit_hit
  have hpulsed : MainRun LinkTakes (1 + j) _ _ _ := (MainRun.start h.executing).trans hp rfl rfl
  have hdone : MainRun LinkTakes k _ _ _ := hpulsed.trans hanswer (by omega) rfl
  obtain ⟨c, ht, htr⟩ := hdone.run h.calm.undisturbed
  have hidle : s.lstate = .idle := (s.mainEn_iff.1 h.calm.limit_no_rise.1).1
  have hlow (a : Axis) : s.stepOf a = false :=
    Bool.eq_false_iff.2 (h.inv.stepOf_ne_true (by simp [h.executing]) (by simp [hidle]) a)
  have hjoy : s.joyNow = false := h.inv.joyNow_eq_false (by rw [h.executing]; rfl) (by simp [h.executing])
  have hedges (b : Axis) (v : Bool) : edges b v (trace k s) = if b = ctrlAxis s.buf.ctrl then n else 0 := by
    rw [htr, edges_append, edges_append, edges_dirObs, edges_pulsePairs, edges_map_sent, Nat.zero_add, Nat.add_zero]
  have hsent : sentBytes (trace k s) = [0x07, 0xF0, 0x00, 0x0A] := by
    rw [htr, sentBytes_append, sentBytes_append, sentBytes_dirObs, sentBytes_pulsePairs, sentBytes_map_sent]
    rfl
  exact ⟨_, {
    reached := ht
    polling := rfl
    active_axis := rfl
    active_dir := rfl
    dir_out := rfl
    steps_low := ⟨hlow .x, hlow .y, hlow .z⟩
    continuing := h.continuing
    flags_clear := ⟨rfl, rfl, rfl, rfl, rfl, hjoy⟩
    remote_used := rfl
    rising := (hedges _ _).trans (if_pos rfl)
    falling := (hedges _ _).trans (if_pos rfl)
    other_axes := fun b v hb => (hedges b v).trans (if_neg hb)
    response := hsent }⟩

/-- A command with one of the three axes runs its burst (41_pulse_generator.md R141). -/
theorem CommandReady.done_of_axis (h : CommandReady k s) (hax : ctrlAxis s.buf.ctrl ≠ .reserved)
    (hn : (requestedPulses s.buf.gotoMode s.buf.count).toNat = n) (hk : k = n * (2 * s.params.phaseTicks + 1) + 8) :
    ∃ t, CommandDone k s t (ctrlAxis s.buf.ctrl) (ctrlDir s.buf.ctrl) n := by
  have hidle : s.lstate = .idle := (s.mainEn_iff.1 h.calm.limit_no_rise.1).1
  have hstart : s.started.BurstStart :=
    { checking := by simp [State.started, hax]
      continuing := h.continuing
      phase_pos := h.inv.params_valid
      axis := hax
      low := Bool.eq_false_iff.2 (h.inv.stepOf_ne_true (by simp [h.executing]) (by simp [hidle]) _) }
  have hburst := MainRun.burst (Q := LinkTakes) hstart
  have hcmd : s.started.cmdPend = true := h.inv.command_states (.inl h.executing)
  rw [if_pos hcmd] at hburst
  subst hn
  exact h.done hk hburst

/-- The fields `M_EXEC` reads are those of the frame in the buffer. -/
theorem Payload.fields_of_frame {b : Payload} {a : Axis} {d q : Bool} {ign : BitVec 4} {g : Byte} {c : Count}
    (h : b.frame = commandBytes a d ign q g c) :
    ctrlAxis b.ctrl = a ∧ ctrlDir b.ctrl = d ∧ b.gotoByte = g ∧ b.count = c := by
  simp only [Payload.frame, commandBytes, List.cons.injEq] at h
  obtain ⟨_, hctrl, hg, h3, h2, h1, h0, _⟩ := h
  refine ⟨?_, ?_, hg, ?_⟩
  · rw [hctrl, ctrlAxis_ctrlByte]
  · rw [hctrl, ctrlDir_ctrlByte]
  · rw [Payload.count, h3, h2, h1, h0, countOf_countBytes]

end Command

/-- Settles O32: a reserved go-to-limit byte is not `0xFF`, so the burst is the one of the count. -/
theorem reservedFormsHaveTheNetEffectOfMove : Obligations.ReservedFormsHaveTheNetEffectOfMove := by
  intro s axis dir ign g count hax _ hon hframe h
  rw [encode_reservedGoto] at hframe
  obtain ⟨rfl, rfl, rfl, rfl⟩ := Payload.fields_of_frame hframe
  have hg : s.buf.gotoMode = false := beq_eq_false_iff_ne.2 hon
  refine h.done_of_axis hax ?_ rfl
  rw [hg]
  rfl

/-- The axis code `11` is the reserved one (30_encoding.md R98). -/
theorem ctrlAxis_of_bits {ctrl : Byte} (h : ctrl.extractLsb' 6 2 = 3) : ctrlAxis ctrl = .reserved := by
  rw [ctrlAxis, h]
  rfl

/-- Settles O33: `M_EXEC` goes straight to the response, so there are no ticks of PULSE and no pairs. -/
theorem reservedAxisIsAnsweredAtOnce : Obligations.ReservedAxisIsAnsweredAtOnce := by
  intro s hbits h
  have hax : ctrlAxis s.buf.ctrl = .reserved := ctrlAxis_of_bits hbits
  have hresp : s.started.mstate = .resp := if_pos hax
  have hnone : MainRun LinkTakes 0 s.started { s.started with mstate := .resp } (pulsePairs (ctrlAxis s.buf.ctrl) 0) := by
    rw [← hresp]
    exact .refl
  rw [← hax]
  exact h.done rfl hnone

end Sys2Proof.Machine

/-! The command decoder: one equation per branch of `M_POLL`, `M_COLLECT` and `M_PARSE`, and the bytes of a cycle, counted by
what the capture still waits for (40_command_decoder.md R110 to R115). -/

namespace Sys2Proof.Machine

section DecoderTicks
variable {p : PortIn} {s t u : State} {b b' : Payload} {k : Nat}

/-! ### `M_POLL` -/

/-- `M_POLL` goes on to dispatch whenever it does not open a capture (40_command_decoder.md R111). -/
theorem State.pollRule_pass
    (h : s.cmdPend = true ∨ s.queryPend = true ∨ ¬(p.rxValid = true ∧ p.rxData = startByte)) :
    s.pollRule p = { s with mstate := .dispatch } := by
  rcases h with hc | hq | hno
  · simp [State.pollRule, hc]
  · simp [State.pollRule, hq]
  · unfold State.pollRule
    split
    · rfl
    · split
      · next hv => exact if_neg fun hd => hno ⟨hv, hd⟩
      · rfl

theorem State.pollRule_start (hc : s.cmdPend = false) (hq : s.queryPend = false) (hv : p.rxValid = true)
    (hd : p.rxData = startByte) : s.pollRule p = { s with rxIdx := 0, mstate := .collect } := by
  simp [State.pollRule, hc, hq, hv, hd]

theorem step_poll (he : s.Enabled) (hm : s.mstate = .poll) :
    step s = .next (s.latch s.input (s.pollRule s.input)) :=
  step_of_main s _ he.1 he.2 (mainRule_poll hm)

/-- While something is pending `M_POLL` is not ready for a byte (40_command_decoder.md R110). -/
theorem State.received_poll_pending (hm : s.mstate = .poll) (h : s.cmdPend = true ∨ s.queryPend = true) :
    s.received = none := by
  have hr : s.rxReady = false := by rcases h with h | h <;> simp [State.rxReady, hm, h]
  simp [State.received, hr]

theorem State.received_poll (he : s.mainEn = true) (hm : s.mstate = .poll) (hc : s.cmdPend = false)
    (hq : s.queryPend = false) (hv : s.input.rxValid = true) : s.received = some s.input.rxData :=
  State.received_of_ready (by simp [State.rxReady, he, hm, hc, hq]) hv

/-! ### `M_COLLECT` -/

/-- A payload write is the byte at that place of the frame and nothing else; the opening `START` is the frame's byte 0
(20_memory.md R50). -/
theorem Payload.frame_write {i : BitVec 3} {x : Byte} (h : b.write i x = some b') :
    b'.frame = b.frame.set (i.toNat + 1) x := by
  have hi : i = 0 ∨ i = 1 ∨ i = 2 ∨ i = 3 ∨ i = 4 ∨ i = 5 ∨ i = 6 ∨ i = 7 := by clear h; revert i; decide
  rcases hi with rfl | rfl | rfl | rfl | rfl | rfl | rfl | rfl <;> cases h <;> rfl

/-- A byte that is offered to `M_COLLECT` is stored, and the last index leads to `M_PARSE` (40_command_decoder.md R112). -/
theorem collectRule_store (hm : s.mstate = .collect) (hv : p.rxValid = true)
    (hw : s.buf.write s.rxIdx p.rxData = some b) :
    collectRule s p = .next { s with
      buf := b
      rxIdx := if s.rxIdx = 6 then s.rxIdx else s.rxIdx + 1
      mstate := if s.rxIdx = 6 then .parse else .collect } := by
  rw [collectRule, if_pos hv, hw]
  by_cases h6 : s.rxIdx = 6
  · simp only [if_pos h6]
  · simp only [if_neg h6, ← hm]

theorem State.received_collect (he : s.mainEn = true) (hm : s.mstate = .collect) (hv : s.input.rxValid = true) :
    s.received = some s.input.rxData :=
  State.received_of_ready (by simp [State.rxReady, he, hm]) hv

end DecoderTicks

/-- Settles O17: by the two branches of `M_POLL`. -/
theorem pollReadsAtMostOneByte : Obligations.PollReadsAtMostOneByte := by
  refine fun s he hm => ⟨fun hpend => ?_, fun _ _ hv => ?_, fun hc hq hv hd => ?_, fun hc hq hv hd => ?_⟩
  · refine ⟨State.received_poll_pending hm hpend, ?_⟩
    rw [step_poll he hm, State.pollRule_pass (hpend.imp_right .inl)]
  · refine ⟨State.received_of_not_valid hv, ?_⟩
    rw [step_poll he hm, State.pollRule_pass (.inr (.inr (by simp [hv])))]
  · refine ⟨hd ▸ State.received_poll he.2 hm hc hq hv, ?_⟩
    rw [step_poll he hm, State.pollRule_start hc hq hv hd]
  · refine ⟨State.received_poll he.2 hm hc hq hv, ?_⟩
    rw [step_poll he hm, State.pollRule_pass (.inr (.inr fun h => hd h.2))]

/-- Settles O18: below index 7 the payload write answers a buffer, and that is the frame with one byte set. -/
theorem collectStoresEachByte : Obligations.CollectStoresEachByte := by
  refine fun s he hm h7 => ⟨fun hv => ⟨State.received_of_not_valid hv, ?_⟩, fun hv => ?_⟩
  · exact step_of_main s s he.1 he.2 ((mainRule_collect hm).trans (collectRule_wait hv))
  · obtain ⟨b, hw⟩ := s.buf.write_isSome s.rxIdx s.input.rxData h7
    refine ⟨State.received_collect he.2 hm hv, b, Payload.frame_write hw, ?_⟩
    exact step_of_main s _ he.1 he.2 ((mainRule_collect hm).trans (collectRule_store hm hv hw))

/-- Settles O20: `M_PARSE` as one record. -/
theorem parseMarksWhatIsPending : Obligations.ParseMarksWhatIsPending := by
  intro s he hm
  rw [step_of_main s _ he.1 he.2 (mainRule_parse hm), State.parseRule_eq]
  rfl

/-! ### The bytes of a cycle -/

/-- The payload bytes an open capture still waits for: seven after `START`, none outside `M_COLLECT`
(40_command_decoder.md R112). -/
def State.awaited (s : State) : Nat :=
  if s.mstate = .collect then 7 - s.rxIdx.toNat else 0

/-- The run from `s` is at no poll before its tick `k`. -/
def State.NoPollBefore (s : State) (k : Nat) : Prop :=
  ∀ j < k, ∀ u, ticks j s = .next u → u.mstate ≠ .poll

section Cycle
variable {s t u : State} {k : Nat}

theorem State.awaited_of_collect (hm : s.mstate = .collect) : s.awaited = 7 - s.rxIdx.toNat :=
  if_pos hm

theorem State.awaited_of_not_collect (hm : s.mstate ≠ .collect) : s.awaited = 0 :=
  if_neg hm

/-- The latch does not touch the capture. -/
theorem State.awaited_latch {p : PortIn} : (s.latch p t).awaited = t.awaited := rfl

theorem SameMain.awaited (h : SameMain s t) : t.awaited = s.awaited := by
  rw [State.awaited, State.awaited, h.mstate, h.rxIdx]

/-- In `M_COLLECT` every byte taken is one of those awaited, and the last one closes the capture. -/
theorem MainMove.awaited_of_collect (he : s.mainEn = true) (hm : s.mstate = .collect) (h : MainMove s.input s t) :
    s.received.toList.length + t.awaited = s.awaited := by
  cases h with
  | collectWait _ hv => simp [State.received_of_not_valid hv]
  | collectByte _ hv hw h6 =>
    have h7 : s.rxIdx ≠ 7 := Payload.index_of_write hw
    have hlt : s.rxIdx.toNat < 7 := by bv_omega
    rw [State.received_collect he hm hv, State.awaited_of_collect hm, State.awaited_of_collect (by exact hm)]
    simp only [rxIdx_succ_toNat h6 h7, Option.toList_some, List.length_singleton]
    omega
  | collectLast _ hv _ h6 =>
    rw [State.received_collect he hm hv, State.awaited_of_collect hm, h6]
    rfl
  | _ hm' => simp [hm] at hm'

/-- Away from the poll the bytes taken and the bytes awaited add up to the same number before and after a move of MAIN. -/
theorem MainMove.awaited (he : s.mainEn = true) (hp : s.mstate ≠ .poll) (h : MainMove s.input s t) :
    s.received.toList.length + t.awaited = s.awaited := by
  by_cases hc : s.mstate = .collect
  · exact h.awaited_of_collect he hc
  · have ht : t.mstate ≠ .collect := fun ht => (h.enters_collect ht).elim hp hc
    rw [State.received_of_not_decoding hp hc, State.awaited_of_not_collect hc, State.awaited_of_not_collect ht]
    rfl

/-- So they do over every tick without reset; a held tick leaves both as they are. -/
theorem step_awaited (hr : s.input.rst = false) (hp : s.mstate ≠ .poll) (hs : step s = .next u) :
    s.received.toList.length + u.awaited = s.awaited := by
  cases he : s.mainEn with
  | true =>
    obtain ⟨t, hmv, rfl⟩ := step_mainMove ⟨hr, he⟩ hs
    rw [State.awaited_latch]
    exact hmv.awaited he hp
  | false =>
    obtain ⟨⟨t, ht, hsame⟩, _, _, hnone, _⟩ := (heldMainKeepsItsState s).2 ⟨hr, he⟩
    cases ht.symm.trans hs
    rw [hnone, hsame.awaited]
    exact Nat.zero_add _

/-- A run that does not stop begins with a tick that does not stop. -/
theorem step_of_ticks_succ (h : ticks (k + 1) s = .next t) : ∃ u, step s = .next u ∧ ticks k u = .next t := by
  cases hs : step s with
  | next u => exact ⟨u, rfl, (ticks_succ hs).symm.trans h⟩
  | fault f => simp [ticks, hs] at h
  | refused r => simp [ticks, hs] at h

theorem State.NoPollBefore.tail (h : s.NoPollBefore (k + 1)) (hs : step s = .next u) : u.NoPollBefore k :=
  fun j hj v hv => h (j + 1) (Nat.succ_lt_succ hj) v ((ticks_succ hs).trans hv)

/-- Up to the next poll exactly the awaited bytes are taken. -/
theorem length_receivedBytes_to_poll (hn : s.NoReset k) (hp : s.NoPollBefore k) (h : ticks k s = .next t)
    (ht : t.mstate = .poll) : (receivedBytes k s).length = s.awaited := by
  induction k generalizing s with
  | zero =>
    cases h
    exact (State.awaited_of_not_collect (by simp [ht])).symm
  | succ k ih =>
    obtain ⟨u, hs, hu⟩ := step_of_ticks_succ h
    have hrest : (receivedBytes k u).length = u.awaited := ih (State.NoReset.tail hn hs) (hp.tail hs) hu
    have hpoll : s.mstate ≠ .poll := hp 0 k.succ_pos s rfl
    rw [receivedBytes_succ hs, List.length_append, hrest]
    exact step_awaited (hn 0 k.succ_pos) hpoll hs

/-- The tick of the poll itself: the byte it takes, if any, and the seven of the capture it may open
(40_command_decoder.md R111, R115). -/
theorem step_poll_awaited (he : s.Enabled) (hm : s.mstate = .poll) (hc : s.cmdPend = false) (hq : s.queryPend = false)
    (hs : step s = .next u) :
    s.received.toList.length + u.awaited =
      if s.input.rxValid = false then 0 else if s.input.rxData = 0x07 then 8 else 1 := by
  obtain ⟨_, hnone, hstart, hdrop⟩ := pollReadsAtMostOneByte s he hm
  by_cases hv : s.input.rxValid = false
  · obtain ⟨hrecv, hstep⟩ := hnone hc hq hv
    cases hstep.symm.trans hs
    rw [hrecv, if_pos hv]
    rfl
  · have hv' : s.input.rxValid = true := Bool.not_eq_false _ ▸ hv
    rw [if_neg hv]
    by_cases hd : s.input.rxData = 0x07
    · obtain ⟨hrecv, hstep⟩ := hstart hc hq hv' hd
      cases hstep.symm.trans hs
      rw [hrecv, if_pos hd]
      rfl
    · obtain ⟨hrecv, hstep⟩ := hdrop hc hq hv' hd
      cases hstep.symm.trans hs
      rw [hrecv, if_neg hd]
      rfl

end Cycle

/-- Settles O23: the poll's own byte, and then the bytes that an open capture awaits. -/
theorem cycleTakesNoneOneOrEightBytes : Obligations.CycleTakesNoneOneOrEightBytes := by
  intro s t k he hm hc hq hn hk h ht hmid
  obtain ⟨k, rfl⟩ := Nat.exists_eq_add_one.2 hk
  obtain ⟨u, hs, hu⟩ := step_of_ticks_succ h
  have hp : u.NoPollBefore k := fun j hj v hv =>
    hmid (j + 1) (Nat.succ_lt_succ hj) j.succ_pos v ((ticks_succ hs).trans hv)
  have hrest : (receivedBytes k u).length = u.awaited :=
    length_receivedBytes_to_poll (State.NoReset.tail hn hs) hp hu ht
  rw [receivedBytes_succ hs, List.length_append, hrest]
  exact step_poll_awaited ⟨hn 0 k.succ_pos, he⟩ hm hc hq hs

end Sys2Proof.Machine

/-! The commands of the pulse generator at single ticks and from their execution on: the operands `M_EXEC` latches, a burst that
is not allowed to start, and the answer to a command, whatever its status (41_pulse_generator.md R131, R136, R142, R144,
43_response_encoder.md R182). -/

namespace Sys2Proof.Machine

/-! ### `M_EXEC` -/

/-- Settles O6: a command is latched as it stands, and a move's count is its own. -/
theorem moveLatchesItsOperands : Obligations.MoveLatchesItsOperands :=
  fun _ _ _ _ _ => rfl

/-- Settles O7: the count that goes with `g = 1` is the largest one, and the operand is dropped. -/
theorem gotolimAsksForTheLargestCount : Obligations.GotolimAsksForTheLargestCount :=
  fun _ _ _ _ _ => rfl

/-- The axis code `11`, and it alone, is the reserved one (30_encoding.md R98). -/
theorem ctrlAxis_eq_reserved_iff {ctrl : Byte} : ctrlAxis ctrl = .reserved ↔ ctrl.extractLsb' 6 2 = 3 := by
  have hcode (b : BitVec 2) : Axis.ofBits b = .reserved ↔ b = 3 := by revert b; decide
  exact hcode _

theorem step_exec {s : State} (he : s.Enabled) (hm : s.mstate = .exec) : step s = .next (s.latch s.input s.started) :=
  step_of_main s _ he.1 he.2 (mainRule_exec hm)

/-- What `M_EXEC` makes of a state, with every field read from its bits (41_pulse_generator.md R131, 30_encoding.md R89). -/
theorem State.started_eq (s : State) :
    s.started = { s with
      activeAxis := Axis.ofBits (s.buf.ctrl.extractLsb' 6 2)
      activeDir := s.buf.ctrl.getLsbD 5
      dirOut := s.buf.ctrl.getLsbD 5
      gotoLimit := s.buf.gotoByte == 0xFF
      pulseRem := if s.buf.gotoByte = 0xFF then 0xFFFFFFFF else s.buf.p3 ++ s.buf.p2 ++ s.buf.p1 ++ s.buf.p0
      mstate := if s.buf.ctrl.extractLsb' 6 2 = 3 then .resp else .pcheck } := by
  have hnext : (if ctrlAxis s.buf.ctrl = .reserved then MState.resp else .pcheck) =
      if s.buf.ctrl.extractLsb' 6 2 = 3 then .resp else .pcheck :=
    if_congr ctrlAxis_eq_reserved_iff rfl rfl
  have hpulses : requestedPulses s.buf.gotoMode s.buf.count =
      if s.buf.gotoByte = 0xFF then 0xFFFFFFFF else s.buf.p3 ++ s.buf.p2 ++ s.buf.p1 ++ s.buf.p0 :=
    if_congr beq_iff_eq rfl rfl
  rw [State.started, State.startCommand, hnext, hpulses]
  rfl

/-- Settles O26: the tick of `M_EXEC`, with its fields read from their bits. -/
theorem execTickLatchesTheFields : Obligations.ExecTickLatchesTheFields := by
  intro s he hm
  rw [step_exec he hm, State.started_eq]

/-- With no edge at this tick MAIN, which is not held now, is not held at the next one (60_exceptions.md R221). -/
theorem State.mainEn_latch {s t : State} {p : PortIn} (he : s.mainEn = true) (hedge : s.limS = true → s.limPrev = true)
    (hl : t.lstate = s.lstate) : (s.latch p t).mainEn = true := by
  have hidle : s.lstate = .idle := (s.mainEn_iff.1 he).1
  refine (State.mainEn_iff _).2 ⟨hl.trans hidle, Bool.eq_false_iff.2 fun hp => ?_⟩
  rcases s.nextLimPend_iff.1 hp with ⟨hs, hprev⟩ | ⟨_, hne⟩
  · simp [hedge hs] at hprev
  · exact hne hidle

/-- Settles O34: the tick of `M_EXEC`, and then the branch of `M_PCHECK` that starts no pulse. -/
theorem clearedFlagSwallowsTheNextBurst : Obligations.ClearedFlagSwallowsTheNextBurst := by
  intro s hn hmain hedge hm hax hcmd hk
  have hexec : step s = .next (s.latch s.input s.started) := step_exec ⟨hn 0 (by decide), hmain⟩ hm
  have hcheck : s.started.mstate = .pcheck := if_neg fun hres => hax (ctrlAxis_eq_reserved_iff.1 hres)
  have he : (s.latch s.input s.started).Enabled :=
    ⟨State.NoReset.tail hn hexec 0 Nat.one_pos, State.mainEn_latch hmain hedge rfl⟩
  have hleave := (pulseCheckStartsOrLeaves _ he hcheck).2 (.inl hk)
  refine ⟨_, (ticks_succ hexec).trans (ticks_succ hleave), ?_, rfl, rfl, rfl, rfl, rfl, rfl⟩
  exact if_pos hcmd

/-! ### From `M_EXEC` to the next poll -/

/-- Settles O31: with `g = 1` the burst is the one of the largest count. -/
theorem gotolimEndsAfterTheLargestCount : Obligations.GotolimEndsAfterTheLargestCount := by
  intro s axis dir ign count hax hframe h
  obtain ⟨rfl, rfl, hg, _⟩ := Payload.fields_of_frame hframe
  have hmode : s.buf.gotoMode = true := beq_iff_eq.2 hg
  refine h.done_of_axis hax ?_ rfl
  rw [hmode]
  rfl

/-! ### The answer to a command -/

/-- The status byte a command is answered with (43_response_encoder.md R182). -/
def State.statusByte (s : State) : Byte :=
  if s.unexpectedLimit then 0x0F else 0xF0

theorem mainRule_pcheckLeave {s : State} {p : PortIn} (hm : s.mstate = .pcheck)
    (h : s.keepPulsing = false ∨ s.pulseRem = 0) :
    mainRule p s = .next { s with keepPulsing := true, mstate := if s.cmdPend then .resp else .cycleEnd } := by
  rw [mainRule_pcheck hm, State.pcheckRule_leave h]

namespace MainRun
variable {s : State}

/-- A frame that has been built is sent, and its cycle ends, in five ticks (43_response_encoder.md R186,
44_control_loop.md R205). -/
theorem sendAndEnd (hm : s.mstate = .tx) (hi : s.txIdx = 0) :
    MainRun LinkTakes 5 s { s.clearCycleFlags with txIdx := 3, mstate := .poll } (s.txBuf.bytes.map Obs.sent) := by
  have hsend : MainRun LinkTakes 4 s { s with txIdx := 3, mstate := .cycleEnd } (s.txBuf.bytes.map Obs.sent) := by
    have h := sendFrame hm
    rwa [← hi] at h
  have hend : MainRun LinkTakes 1 { s with txIdx := 3, mstate := .cycleEnd }
      { s.clearCycleFlags with txIdx := 3, mstate := .poll } [] :=
    tick_silent (fun _ _ _ => mainRule_cycleEnd rfl) nofun (outputObs_self s)
  exact hsend.trans hend

/-- A command is answered by its status, and its cycle ends, in six ticks (43_response_encoder.md R182). -/
theorem answer (hm : s.mstate = .resp) :
    MainRun LinkTakes 6 s
      { s.clearCycleFlags with txBuf := ⟨0x07, s.statusByte, 0x00, 0x0A⟩, txIdx := 3, mstate := .poll }
      ([0x07, s.statusByte, 0x00, 0x0A].map Obs.sent) := by
  have hbuild : MainRun LinkTakes 1 s (s.buildFrame s.statusByte 0x00) [] :=
    tick_silent (fun _ _ _ => mainRule_resp hm) (by simp [hm]) (outputObs_self s)
  exact hbuild.trans (sendAndEnd rfl rfl) rfl rfl

/-- `M_PCHECK` leaves a burst that was aborted, and restores the flag (41_pulse_generator.md R136). -/
theorem leaveAborted {Q : PortIn → Prop} (hm : s.mstate = .pcheck) (hk : s.keepPulsing = false) :
    MainRun Q 1 s { s with keepPulsing := true, mstate := if s.cmdPend then .resp else .cycleEnd } [] :=
  tick_silent (fun _ _ _ => mainRule_pcheckLeave hm (.inl hk)) (by simp [hm]) (outputObs_self s)

end MainRun

/-- Settles O54: the burst is left, and the answer is built from `limit_hit` and `goto_limit` before both are cleared. -/
theorem limitHitIsReportedOnce : Obligations.LimitHitIsReportedOnce := by
  intro s hm hcmd hhit hk hcalm
  have hleave : MainRun LinkTakes 1 s { s with keepPulsing := true, mstate := .resp } [] := by
    have h := MainRun.leaveAborted (Q := LinkTakes) hm hk
    rwa [if_pos hcmd] at h
  have hrun : MainRun LinkTakes 7 s _ _ := hleave.trans (MainRun.answer rfl) rfl rfl
  obtain ⟨c, ht, htr⟩ := hrun.run hcalm.undisturbed
  have hstatus : s.statusByte = if s.gotoLimit = true then 0xF0 else 0x0F := by
    cases hg : s.gotoLimit <;> simp [State.statusByte, State.unexpectedLimit, hhit, hg]
  refine ⟨_, ht, rfl, rfl, rfl, rfl, rfl, rfl, htr.trans ?_⟩
  rw [← hstatus]
  rfl

end Sys2Proof.Machine

/-! A command from its first byte on the wire: the capture of a frame whose bytes are offered one a tick, the two ticks that
lead to its execution, and the time until MAIN can read again, in which no byte is taken (40_command_decoder.md R111 to R113,
44_control_loop.md R202, 70_reset_and_hazards.md R265, R281). -/

namespace Sys2Proof.Machine

/-! ### The capture of a frame offered one byte a tick -/

/-- The byte `b` is offered at this sample (20_memory.md R53). -/
abbrev Offered (b : Byte) (p : PortIn) : Prop :=
  p.rxValid = true ∧ p.rxData = b

/-- `CaptureRun Q bs s x`: undisturbed and offered the bytes `bs` one a tick, with port samples that have `Q`, MAIN takes each of
them, goes from `s` to `x` and shows nothing, wherever the environment stands. -/
def CaptureRun (Q : PortIn → Prop) (bs : List Byte) (s x : State) : Prop :=
  ∀ (c : Clock) (m : Nat), (s.withClock c).Undisturbed Q (bs.length + m) → (s.withClock c).Offers bs →
    ∃ c', ticks bs.length (s.withClock c) = .next (x.withClock c') ∧ trace bs.length (s.withClock c) = [] ∧
      receivedBytes bs.length (s.withClock c) = bs ∧ (x.withClock c').Undisturbed Q m

section Capture
variable {Q : PortIn → Prop} {p : PortIn} {s t u x : State} {b b' : Payload} {y : Byte} {bs : List Byte} {k : Nat}

theorem State.Offers.head (h : s.Offers (y :: bs)) : Offered y s.input :=
  h 0 (Nat.succ_pos _)

theorem State.Offers.tail (h : s.Offers (y :: bs)) (hs : step s = .next u) : u.Offers bs := by
  intro j hj
  rw [step_inputAt hs]
  exact h (j + 1) (Nat.succ_lt_succ hj)

/-- The first ticks of an undisturbed run, by any property their samples have. -/
theorem State.Undisturbed.take {R : PortIn → Prop} {n : Nat} (h : s.Undisturbed Q n) (hk : k ≤ n)
    (hR : ∀ j < k, R (s.inputAt j)) : s.Undisturbed R k where
  no_reset := fun j hj => h.no_reset j (hj.trans_le hk)
  samples := hR
  no_rise := fun hpos => by
    obtain ⟨he, hprev, hmeta, hin, hrise⟩ := h.no_rise (hpos.trans_le hk)
    exact ⟨he, hprev, hmeta, hin, fun j hj => hrise j (by omega)⟩

theorem MainRun.step_one {c : Clock} (h : MainRun Q 1 s u []) (hu : (s.withClock c).Undisturbed Q 1) :
    ∃ c', step (s.withClock c) = .next (u.withClock c') ∧ tickObs (s.withClock c) (u.withClock c') = [] := by
  obtain ⟨c', ht, htr, _⟩ := h c 0 hu
  obtain ⟨v, hs, hv⟩ := step_of_ticks_succ ht
  cases hv
  rw [trace_succ hs] at htr
  exact ⟨c', hs, (List.append_eq_nil_iff.1 htr).1⟩

namespace CaptureRun

theorem refl : CaptureRun Q [] s s :=
  fun c m h _ => ⟨c, rfl, rfl, rfl, by rwa [List.length_nil, Nat.zero_add] at h⟩

/-- One byte more in front. -/
theorem cons (hmain : MainRun (Offered y) 1 s u [])
    (hrecv : ∀ c, (s.withClock c).mainEn = true → Offered y (s.withClock c).input → (s.withClock c).received = some y)
    (h : CaptureRun Q bs u x) : CaptureRun Q (y :: bs) s x := by
  intro c m hu ho
  rw [List.length_cons, Nat.add_right_comm] at hu
  obtain ⟨c₁, hs, hobs⟩ := hmain.step_one
    (hu.take (Nat.le_add_left 1 _) fun j hj => Nat.lt_one_iff.1 hj ▸ ho.head)
  obtain ⟨c', ht, htr, hbytes, hu'⟩ := h c₁ m (hu.step hs) (ho.tail hs)
  refine ⟨c', (ticks_succ hs).trans ht, ?_, ?_, hu'⟩
  · rw [List.length_cons, trace_succ hs, hobs, htr]
    rfl
  · rw [List.length_cons, receivedBytes_succ hs, hrecv c hu.enabled.2 ho.head, hbytes]
    rfl

end CaptureRun

theorem mainRule_pollStart (hm : s.mstate = .poll) (hc : s.cmdPend = false) (hq : s.queryPend = false)
    (ho : Offered startByte p) : mainRule p s = .next { s with rxIdx := 0, mstate := .collect } := by
  rw [mainRule_poll hm, State.pollRule_start hc hq ho.1 ho.2]

theorem mainRule_collectByte (hm : s.mstate = .collect) (ho : Offered y p) (hw : s.buf.write s.rxIdx y = some b) :
    mainRule p s = .next { s with
      buf := b
      rxIdx := if s.rxIdx = 6 then s.rxIdx else s.rxIdx + 1
      mstate := if s.rxIdx = 6 then .parse else .collect } := by
  obtain ⟨hv, rfl⟩ := ho
  rw [mainRule_collect hm, collectRule_store hm hv hw]

namespace CaptureRun

/-- The byte that opens a capture (40_command_decoder.md R111). -/
theorem start (hm : s.mstate = .poll) (hc : s.cmdPend = false) (hq : s.queryPend = false)
    (h : CaptureRun Q bs { s with rxIdx := 0, mstate := .collect } x) : CaptureRun Q (startByte :: bs) s x := by
  have hmain : MainRun (Offered startByte) 1 s { s with rxIdx := 0, mstate := .collect } [] :=
    .tick_silent (fun _ _ => mainRule_pollStart hm hc hq) (by simp [hm]) (outputObs_self s)
  refine cons hmain (fun c he ho => ?_) h
  rw [State.received_poll he hm hc hq ho.1, ho.2]

/-- One payload byte (40_command_decoder.md R112). -/
theorem byte (hm : s.mstate = .collect) (hw : s.buf.write s.rxIdx y = some b)
    (h : CaptureRun Q bs { s with
      buf := b
      rxIdx := if s.rxIdx = 6 then s.rxIdx else s.rxIdx + 1
      mstate := if s.rxIdx = 6 then .parse else .collect } x) : CaptureRun Q (y :: bs) s x := by
  have hmain : MainRun (Offered y) 1 s
      { s with
        buf := b
        rxIdx := if s.rxIdx = 6 then s.rxIdx else s.rxIdx + 1
        mstate := if s.rxIdx = 6 then .parse else .collect } [] :=
    .tick_silent (fun _ _ ho => mainRule_collectByte hm ho hw) (by simp [hm]) (outputObs_self s)
  refine cons hmain (fun c he ho => ?_) h
  rw [State.received_collect he hm ho.1, ho.2]

/-- The payload bytes still to come go behind those of the earlier indices, and the seventh closes the capture. -/
theorem payload {i : BitVec 3} (hlen : i.toNat + bs.length = 7) (hne : bs ≠ [])
    (hf : b'.frame = b.frame.take (i.toNat + 1) ++ bs) :
    CaptureRun Q bs { s with buf := b, rxIdx := i, mstate := .collect } { s with buf := b', rxIdx := 6, mstate := .parse } := by
  induction bs generalizing b i with
  | nil => exact absurd rfl hne
  | cons y bs ih =>
    have h7 : i ≠ 7 := by
      rintro rfl
      simp at hlen
    obtain ⟨b₁, hw⟩ := b.write_isSome i y h7
    have hframe : b₁.frame.take (i.toNat + 2) = b.frame.take (i.toNat + 1) ++ [y] := Payload.frame_take_write hw
    refine byte rfl hw ?_
    cases bs with
    | nil =>
      obtain rfl : i = 6 := BitVec.eq_of_toNat_eq (Nat.succ.inj hlen)
      obtain rfl : b₁ = b' := Payload.frame_injective (hframe.trans hf.symm)
      exact refl
    | cons z bs =>
      have h6 : i ≠ 6 := by
        rintro rfl
        simp at hlen
        omega
      have hidx : (i + 1).toNat = i.toNat + 1 := rxIdx_succ_toNat h6 h7
      simp only [if_neg h6]
      refine ih (by rw [hidx]; simp at hlen ⊢; omega) nofun ?_
      rw [hidx, hframe, hf, List.append_assoc]
      rfl

/-- A whole frame, from a poll with nothing pending to its check (40_command_decoder.md R111, R112). -/
theorem frame (hm : s.mstate = .poll) (hc : s.cmdPend = false) (hq : s.queryPend = false) (b : Payload) :
    CaptureRun Q b.frame s { s with buf := b, rxIdx := 6, mstate := .parse } :=
  start hm hc hq (payload (b := s.buf) rfl nofun rfl)

end CaptureRun
end Capture

/-! ### The time until the next poll -/

section Silence
variable {Q : PortIn → Prop} {p : PortIn} {s t : State} {r : Count} {k : Nat}

/-- Undisturbed, MAIN is this many ticks from `M_PCHECK`, with `r` pulses to start, to the next `M_POLL`
(41_pulse_generator.md R140, 43_response_encoder.md R182, R186). -/
def State.checkToPoll (s : State) (r : Count) : Nat :=
  (if s.keepPulsing then r.toNat else 0) * (2 * s.params.phaseTicks + 1) + 1 + if s.cmdPend then 6 else 1

/-- Undisturbed, MAIN reads no byte for at least this many ticks. From `M_EXEC` on these are the ticks to the next `M_POLL` if
the link takes every byte; before it, those that every cycle has. -/
def State.ticksToPoll (s : State) : Nat :=
  match s.mstate with
  | .poll | .collect => 0
  | .parse => 2
  | .dispatch | .joywait | .joyread => 1
  | .exec =>
    1 + if ctrlAxis s.buf.ctrl = .reserved then 6 else s.checkToPoll (requestedPulses s.buf.gotoMode s.buf.count)
  | .pcheck => s.checkToPoll s.pulseRem
  | .phigh => s.mCnt + s.params.phaseTicks + s.checkToPoll (s.pulseRem - 1)
  | .plow => s.mCnt + s.checkToPoll (s.pulseRem - 1)
  | .boot | .resp | .qresp => 6
  | .tx => 5 - s.txIdx.toNat
  | .cycleEnd => 1

theorem State.checkToPoll_start (hk : s.keepPulsing = true) (hr : r ≠ 0) :
    s.checkToPoll r = 1 + (s.params.phaseTicks + s.params.phaseTicks + s.checkToPoll (r - 1)) := by
  obtain ⟨n, hn⟩ : ∃ n, r.toNat = n + 1 := Nat.exists_eq_add_one.2 (by bv_omega)
  have hpred : (r - 1).toNat = n := by bv_omega
  simp only [State.checkToPoll, if_pos hk, hn, hpred, Nat.succ_mul]
  omega

theorem State.checkToPoll_leave (h : s.keepPulsing = false ∨ r = 0) :
    s.checkToPoll r = 1 + if s.cmdPend then 6 else 1 := by
  rcases h with h | rfl <;> simp [State.checkToPoll, *]

/-- No move of MAIN brings the next poll nearer than by its own tick. -/
theorem MainMove.ticksToPoll_le (h : MainMove p s t) : s.ticksToPoll ≤ t.ticksToPoll + 1 := by
  cases h with
  | pollPass hm | pollStart hm | collectWait hm | collectByte hm | collectLast hm => simp [State.ticksToPoll, hm]
  | parseQuery hm | parseCommand hm | parseDrop hm => simp [State.ticksToPoll, hm]
  | dispatchCommand hm | dispatchQuery hm | dispatchJoystick hm => simp [State.ticksToPoll, hm]
  | joywaitCount hm | joywaitDone hm | joyreadMove hm | joyreadNone hm => simp [State.ticksToPoll, hm]
  | boot hm | resp hm | qresp hm | cycleEnd hm => simp [State.ticksToPoll, hm]
  | exec hm =>
    by_cases hax : ctrlAxis s.buf.ctrl = .reserved
    · simp [State.ticksToPoll, hm, hax]
    · simp only [State.ticksToPoll, hm, State.startCommand_mstate, if_neg hax]
      exact (Nat.add_comm 1 _).le
  | pcheckStart hm hk hr =>
    simp only [State.ticksToPoll, hm]
    rw [State.checkToPoll_start hk hr, Nat.add_comm 1]
    rfl
  | pcheckLeave hm h =>
    simp only [State.ticksToPoll, hm]
    rw [State.checkToPoll_leave h]
    cases s.cmdPend <;> simp
  | phighWait hm hc | plowWait hm hc =>
    simp only [State.ticksToPoll, hm, State.checkToPoll]
    omega
  | phighEnd hm hc | plowEnd hm hc =>
    simp only [State.ticksToPoll, hm, State.checkToPoll, State.driveStep]
    omega
  | txWait hm => exact Nat.le_succ _
  | txByte hm _ hi =>
    simp only [State.ticksToPoll, hm]
    bv_omega
  | txLast hm _ hi => simp [State.ticksToPoll, hm, hi]

theorem State.received_of_ticksToPoll (h : 0 < s.ticksToPoll) : s.received = none := by
  refine State.received_of_not_decoding ?_ ?_ <;> intro hm <;> simp [State.ticksToPoll, hm] at h

/-- As long as the next poll is away MAIN takes no byte (20_memory.md R54). -/
theorem receivedBytes_eq_nil_of_le_ticksToPoll (hu : s.Undisturbed (fun _ => True) k) (hk : k ≤ s.ticksToPoll) :
    receivedBytes k s = [] := by
  induction k generalizing s with
  | zero => rfl
  | succ k ih =>
    cases hs : step s with
    | next u =>
      obtain ⟨t, hmv, rfl⟩ := step_mainMove hu.enabled hs
      have hle : s.ticksToPoll ≤ (s.latch s.input t).ticksToPoll + 1 := hmv.ticksToPoll_le
      rw [receivedBytes_succ hs, State.received_of_ticksToPoll (Nat.zero_lt_of_lt hk), ih (hu.step hs) (by omega)]
      rfl
    | fault f => simp [receivedBytes, hs]
    | refused r => simp [receivedBytes, hs]

/-- The bytes received by a run cut in two. -/
theorem receivedBytes_add {j : Nat} (h : ticks j s = .next t) :
    receivedBytes (j + k) s = receivedBytes j s ++ receivedBytes k t := by
  induction j generalizing s with
  | zero =>
    cases h
    rw [Nat.zero_add]
    rfl
  | succ j ih =>
    obtain ⟨u, hs, hu⟩ := step_of_ticks_succ h
    rw [Nat.add_right_comm, receivedBytes_succ hs, receivedBytes_succ hs, ih hu, List.append_assoc]

end Silence

/-! ### From the first byte to `M_EXEC` -/

section Transaction
variable {Q : PortIn → Prop} {s t u : State} {b : Payload} {j k n : Nat} {axis : Axis} {dir : Bool}

/-- The state in which the command in `b` is about to be executed. -/
def State.commanded (s : State) (b : Payload) : State :=
  { s with buf := b, rxIdx := 6, cmdPend := true, mstate := .exec }

theorem mainRule_parseCommand {p : PortIn} (hm : s.mstate = .parse) (he : s.buf.last = endByte)
    (hq : ctrlQuery s.buf.ctrl = false) : mainRule p s = .next { s with cmdPend := true, mstate := .dispatch } := by
  rw [mainRule_parse hm, State.parseRule, State.setPending, if_pos he, hq]
  rfl

theorem mainRule_dispatchCommand {p : PortIn} (hm : s.mstate = .dispatch) (hc : s.cmdPend = true) :
    mainRule p s = .next { s with mstate := .exec } := by
  rw [mainRule_dispatch hm, State.dispatchRule, if_pos hc]

/-- A captured command is executed two ticks after its last byte (40_command_decoder.md R113, 44_control_loop.md R202). -/
theorem MainRun.parseAndDispatch (he : b.last = endByte) (hq : ctrlQuery b.ctrl = false) :
    MainRun Q 2 { s with buf := b, rxIdx := 6, mstate := .parse } (s.commanded b) [] := by
  have hparse : MainRun Q 1 { s with buf := b, rxIdx := 6, mstate := .parse }
      { s with buf := b, rxIdx := 6, cmdPend := true, mstate := .dispatch } [] :=
    tick_silent (fun _ _ _ => mainRule_parseCommand rfl he hq) nofun (outputObs_self s)
  have hdispatch : MainRun Q 1 { s with buf := b, rxIdx := 6, cmdPend := true, mstate := .dispatch } (s.commanded b) [] :=
    tick_silent (fun _ _ _ => mainRule_dispatchCommand rfl rfl) nofun (outputObs_self s)
  exact hparse.trans hdispatch

/-- What a quiescent state with the invariant is (70_reset_and_hazards.md R265). -/
theorem FrameOffered.idle {bs : List Byte} (h : FrameOffered k s bs) :
    s.mstate = .poll ∧ s.cmdPend = false ∧ s.queryPend = false ∧ s.limitHit = false := by
  have hm : s.mstate = .poll := by
    have hquiet := h.quiescent
    simp only [State.quiescent, Bool.and_eq_true, beq_iff_eq, and_assoc] at hquiet
    exact hquiet.1
  obtain ⟨hc, hq⟩ := h.inv.none_pending (by rw [hm]; rfl)
  exact ⟨hm, hc, hq, Bool.eq_false_iff.2 fun hh => by simp [h.inv.limit_command hh] at hc⟩

theorem CalmFor.of_undisturbed (h : s.Undisturbed LinkTakes k) (hk : 0 < k) : CalmFor k s :=
  ⟨h.no_reset, h.samples, h.no_rise hk⟩

/-- A command offered on the wire is about to be executed ten ticks later, its eight bytes read and nothing shown. -/
theorem FrameOffered.commandReady (h : FrameOffered (10 + k) s b.frame) (hk : 0 < k) (hp : s.keepPulsing = true)
    (he : b.last = endByte) (hq : ctrlQuery b.ctrl = false) :
    ∃ c, ticks 10 s = .next ((s.commanded b).withClock c) ∧ trace 10 s = [] ∧ receivedBytes 10 s = b.frame ∧
      CommandReady k ((s.commanded b).withClock c) := by
  obtain ⟨hm, hcmd, hquery, hhit⟩ := h.idle
  have hu : s.Undisturbed LinkTakes (8 + (2 + k)) := by
    rw [← Nat.add_assoc]
    exact h.calm.undisturbed
  obtain ⟨c₁, ht, htr, hbytes, hu₁⟩ := CaptureRun.frame hm hcmd hquery b s.clock (2 + k) hu h.offered
  obtain ⟨c, ht₁, htr₁, hu₂⟩ := MainRun.parseAndDispatch he hq c₁ k hu₁
  have hnone : receivedBytes 2 _ = [] :=
    receivedBytes_eq_nil_of_le_ticksToPoll (hu₁.take (Nat.le_add_right 2 k) fun _ _ => trivial) le_rfl
  have ht₁₀ : ticks 10 s = .next ((s.commanded b).withClock c) := (ticks_add (k := 2) ht).trans ht₁
  refine ⟨c, ht₁₀, ?_, ?_, ?_⟩
  · exact (trace_add (k := 2) ht).trans (by rw [htr, htr₁]; rfl)
  · exact (receivedBytes_add (k := 2) ht).trans (by rw [hbytes, hnone, List.append_nil])
  · obtain ⟨v, hv, hinv⟩ := h.inv.ticks 10
    cases ht₁₀.symm.trans hv
    exact ⟨hinv, rfl, hp, hhit, .of_undisturbed hu₂ hk⟩

/-- Silent ticks in front leave the net effect of a command what it is. -/
theorem CommandDone.after (h : CommandDone k u t axis dir n) (ht : ticks j s = .next u) (htr : trace j s = [])
    (hused : u.remoteUsed = s.remoteUsed) : CommandDone (j + k) s t axis dir n := by
  have htrace : trace (j + k) s = trace k u := by rw [trace_add ht, htr]; rfl
  exact { h with
    reached := (ticks_add ht).trans h.reached
    remote_used := h.remote_used.trans hused
    rising := htrace ▸ h.rising
    falling := htrace ▸ h.falling
    other_axes := htrace ▸ h.other_axes
    response := htrace ▸ h.response }

/-- While a command with one of the three axes runs, no byte is taken (41_pulse_generator.md R141). -/
theorem CommandReady.receivedBytes_eq_nil (h : CommandReady k s) (hax : ctrlAxis s.buf.ctrl ≠ .reserved)
    (hn : (requestedPulses s.buf.gotoMode s.buf.count).toNat = n) (hk : k = n * (2 * s.params.phaseTicks + 1) + 8) :
    receivedBytes k s = [] := by
  have hcmd : s.cmdPend = true := h.inv.command_states (.inl h.executing)
  have hpoll : s.ticksToPoll = k := by
    simp only [State.ticksToPoll, h.executing, if_neg hax, State.checkToPoll, if_pos h.continuing, if_pos hcmd, hn]
    omega
  exact receivedBytes_eq_nil_of_le_ticksToPoll (h.calm.undisturbed.take le_rfl fun _ _ => trivial) hpoll.ge

/-- A command offered on the wire: ten ticks that read its frame and show nothing, and then its net effect, in which nothing is
read (41_pulse_generator.md R141). -/
theorem FrameOffered.commandDone (h : FrameOffered (10 + (n * (2 * s.params.phaseTicks + 1) + 8)) s b.frame)
    (hp : s.keepPulsing = true) (he : b.last = endByte) (hq : ctrlQuery b.ctrl = false)
    (hax : ctrlAxis b.ctrl ≠ .reserved) (hn : (requestedPulses b.gotoMode b.count).toNat = n) :
    ∃ t, CommandDone (10 + (n * (2 * s.params.phaseTicks + 1) + 8)) s t (ctrlAxis b.ctrl) (ctrlDir b.ctrl) n ∧
      receivedBytes (10 + (n * (2 * s.params.phaseTicks + 1) + 8)) s = b.frame := by
  obtain ⟨c, ht, htr, hbytes, hready⟩ := h.commandReady (Nat.succ_pos _) hp he hq
  obtain ⟨t, hdone⟩ := hready.done_of_axis hax hn rfl
  refine ⟨t, hdone.after ht htr rfl, ?_⟩
  rw [receivedBytes_add ht, hbytes, hready.receivedBytes_eq_nil hax hn rfl, List.append_nil]

/-- The payload of a command frame (30_encoding.md R81). -/
def Payload.ofFields (axis : Axis) (dir : Bool) (ign : BitVec 4) (q : Bool) (g : Byte) (count : Count) : Payload :=
  ⟨ctrlByte axis dir ign q, g, countByte count 3, countByte count 2, countByte count 1, countByte count 0, endByte⟩

theorem Payload.frame_ofFields (axis : Axis) (dir : Bool) (ign : BitVec 4) (q : Bool) (g : Byte) (count : Count) :
    (Payload.ofFields axis dir ign q g count).frame = commandBytes axis dir ign q g count := rfl

end Transaction

/-- Settles O30: the frame of `MOVE` is captured, and a go-to-limit byte of `0x00` asks for the count as it stands. -/
theorem moveTransactionHasItsNetEffect : Obligations.MoveTransactionHasItsNetEffect := by
  intro s axis dir ign count hax hp h
  have hframe := Payload.frame_ofFields axis dir ign false gotoOff count
  obtain ⟨haxis, hdir, _, hcount⟩ := Payload.fields_of_frame hframe
  have hlen : count.toNat * (2 * s.params.phaseTicks + 1) + 18 =
      10 + (count.toNat * (2 * s.params.phaseTicks + 1) + 8) := by omega
  rw [hlen, encode, ← hframe] at h ⊢
  have hdone := h.commandDone hp rfl (ctrlQuery_ctrlByte axis dir false ign) (by rwa [haxis])
    (congrArg BitVec.toNat hcount)
  rwa [haxis, hdir] at hdone

end Sys2Proof.Machine

/-! The joystick controller: the decision of the two channels by their thresholds, the delay before the samples are read, and the
cycle of one micro-move (42_joystick_controller.md R160 to R171). -/

namespace Sys2Proof.Machine

/-! ### The decision -/

section Decision
variable {q : Params} {lr ud : Sample}

/-- The left-right channel's numbers, `700 + 200` and `700 - 400`, leave the readings 300 to 900 in the deadzone
(42_joystick_controller.md R165). -/
theorem leftRightMove_eq :
    leftRightMove lr = if 901 ≤ lr.toNat then some true else if lr.toNat ≤ 299 then some false else none := by
  have hhigh : (lr.toNat : Int) - joyLrBase > joyLrHi ↔ 901 ≤ lr.toNat := by
    simp only [joyLrBase, joyLrHi]
    omega
  have hlow : (lr.toNat : Int) - joyLrBase < -joyLrLo ↔ lr.toNat ≤ 299 := by
    simp only [joyLrBase, joyLrLo]
    omega
  simp only [leftRightMove, channelMove, hhigh, hlow]

theorem joystickMove_of_leftRight {d : Bool} (h : leftRightMove lr = some d) : joystickMove q lr ud = some (.x, d) := by
  rw [joystickMove, h]

theorem joystickMove_of_upDown (h : leftRightMove lr = none) :
    joystickMove q lr ud = (upDownMove q ud).map fun d => (.y, d) := by
  rw [joystickMove, h]

end Decision

/-- Settles O41: the left-right channel by its numbers, and inside its deadzone the up-down channel by the parameters. -/
theorem joystickDecisionByThresholds : Obligations.JoystickDecisionByThresholds := by
  refine fun q lr ud => ⟨fun h => ?_, fun h => ?_, fun hlo hhi => ?_⟩
  · exact joystickMove_of_leftRight (by rw [leftRightMove_eq, if_pos h])
  · exact joystickMove_of_leftRight (by rw [leftRightMove_eq, if_neg (by omega), if_pos h])
  · rw [joystickMove_of_upDown (by rw [leftRightMove_eq, if_neg (by omega), if_neg (by omega)]), upDownMove, channelMove,
      apply_ite (Option.map _), apply_ite (Option.map _)]
    rfl

/-! ### `M_JOYREAD` -/

section Joyread
variable {s : State} {p : PortIn} {a : Axis} {d : Bool}

/-- The state after `M_JOYREAD` has issued the micro-move `(a, d)` (42_joystick_controller.md R168). -/
def State.joystickMoved (s : State) (a : Axis) (d : Bool) : State :=
  { s with
    activeAxis := a
    activeDir := d
    dirOut := d
    pulseRem := 1
    joyNow := true
    remoteUsed := true
    mstate := .pcheck }

theorem State.joyreadRule_move (h : joystickMove s.params p.adcLr p.adcUd = some (a, d)) :
    s.joyreadRule p = s.joystickMoved a d := by
  rw [State.joyreadRule, h]
  rfl

theorem State.joyreadRule_none (h : joystickMove s.params p.adcLr p.adcUd = none) :
    s.joyreadRule p = { s with mstate := .cycleEnd } := by
  rw [State.joyreadRule, h]

theorem step_joyread (he : s.Enabled) (hm : s.mstate = .joyread) :
    step s = .next (s.latch s.input (s.joyreadRule s.input)) :=
  step_of_main s _ he.1 he.2 (mainRule_joyread hm)

end Joyread

/-- Settles O42: by the two branches of `M_JOYREAD`. -/
theorem joyreadIssuesTheMove : Obligations.JoyreadIssuesTheMove := by
  refine fun s he hm => ⟨fun a d hmove => ?_, fun hnone => ?_⟩
  · rw [step_joyread he hm, State.joyreadRule_move hmove]
    rfl
  · rw [step_joyread he hm, State.joyreadRule_none hnone]

/-! ### The delay -/

section Delay
variable {Q : PortIn → Prop} {s : State} {p : PortIn}

theorem State.joywaitRule_wait (hc : s.mCnt ≠ 0) : s.joywaitRule = { s with mCnt := s.mCnt - 1 } :=
  if_pos hc

theorem State.joywaitRule_done (hc : s.mCnt = 0) : s.joywaitRule = { s with mstate := .joyread } :=
  if_neg (not_not.2 hc)

theorem step_joywait (he : s.Enabled) (hm : s.mstate = .joywait) : step s = .next (s.latch s.input s.joywaitRule) :=
  step_of_main s _ he.1 he.2 (mainRule_joywait hm)

theorem mainRule_joywaitCount (hm : s.mstate = .joywait) (hc : s.mCnt ≠ 0) :
    mainRule p s = .next { s with mCnt := s.mCnt - 1 } := by
  rw [mainRule_joywait hm, State.joywaitRule_wait hc]

theorem mainRule_joywaitDone (hm : s.mstate = .joywait) (hc : s.mCnt = 0) :
    mainRule p s = .next { s with mstate := .joyread } := by
  rw [mainRule_joywait hm, State.joywaitRule_done hc]

/-- What `M_DISPATCH` loads the counter with: no delay after a cycle that moved (42_joystick_controller.md R160). -/
def State.joystickDelay (s : State) : Nat :=
  if s.joyPrev = true then 0 else s.params.joyDelayTicks

theorem mainRule_dispatchJoystick (hm : s.mstate = .dispatch) (hc : s.cmdPend = false) (hq : s.queryPend = false) :
    mainRule p s = .next { s with mCnt := s.joystickDelay, mstate := .joywait } := by
  rw [mainRule_dispatch hm, State.dispatchRule, hc, hq]
  rfl

namespace MainRun

/-- The delay counts down to 0, one a tick (42_joystick_controller.md R161). -/
theorem delay (hm : s.mstate = .joywait) (n : Nat) : MainRun Q n { s with mCnt := n } { s with mCnt := 0 } [] := by
  induction n with
  | zero => exact refl
  | succ n ih =>
    have hcount : MainRun Q 1 { s with mCnt := n + 1 } { s with mCnt := n } [] :=
      tick_silent (fun _ _ _ => mainRule_joywaitCount hm n.succ_ne_zero) (by simp [hm]) (outputObs_self s)
    exact hcount.trans ih

/-- From the dispatch of an empty cycle to the tick that reads the samples (42_joystick_controller.md R160, R161). -/
theorem dispatchToJoyread (hm : s.mstate = .dispatch) (hc : s.cmdPend = false) (hq : s.queryPend = false) :
    MainRun Q (s.joystickDelay + 2) s { s with mCnt := 0, mstate := .joyread } [] := by
  have hload : MainRun Q 1 s { s with mCnt := s.joystickDelay, mstate := .joywait } [] :=
    tick_silent (fun _ _ _ => mainRule_dispatchJoystick hm hc hq) (by simp [hm]) (outputObs_self s)
  have hwait : MainRun Q s.joystickDelay { s with mCnt := s.joystickDelay, mstate := .joywait }
      { s with mCnt := 0, mstate := .joywait } [] :=
    delay (s := { s with mstate := .joywait }) rfl s.joystickDelay
  have hdone : MainRun Q 1 { s with mCnt := 0, mstate := .joywait } { s with mCnt := 0, mstate := .joyread } [] :=
    tick_silent (fun _ _ _ => mainRule_joywaitDone rfl rfl) nofun (outputObs_self s)
  have hwaited : MainRun Q (s.joystickDelay + 1) _ _ [] := hwait.trans hdone
  exact hload.trans hwaited

end MainRun
end Delay

/-- Settles O44: by the two branches of `M_JOYWAIT`, and by the run from the dispatch on. -/
theorem joystickDelayChangesOnlyTheCounter : Obligations.JoystickDelayChangesOnlyTheCounter := by
  refine ⟨fun s he hm => ⟨fun hc => ?_, fun hc => ?_⟩, fun s hm hc hq hn hl => ?_⟩
  · rw [step_joywait he hm, State.joywaitRule_wait hc]
  · rw [step_joywait he hm, State.joywaitRule_done hc]
  · obtain ⟨c, ht, htr⟩ := (MainRun.dispatchToJoyread (Q := fun _ => True) hm hc hq).run
      ⟨hn, fun _ _ => trivial, fun _ => hl⟩
    rw [State.joystickDelay] at ht htr
    obtain ⟨hi, hk⟩ := ticks_clock ht
    refine ⟨_, ht, ?_, htr⟩
    rw [← hi, ← hk]
    rfl

/-! ### A micro-move -/

section MicroMove
variable {Q : PortIn → Prop} {s : State} {a : Axis} {d : Bool}

/-- The state at the next poll after the burst of a micro-move (44_control_loop.md R205). -/
def State.microMoved (s : State) : State :=
  { s.clearCycleFlags with mCnt := 1, pulseRem := 0, mstate := .poll }

/-- The burst of a micro-move is one pair, and with no command pending its cycle ends unanswered (41_pulse_generator.md R136,
42_joystick_controller.md R171). -/
theorem MainRun.microMove (h : s.BurstStart) (hr : s.pulseRem = 1) (hc : s.cmdPend = false) :
    MainRun Q (2 * s.params.phaseTicks + 3) s s.microMoved (pulsePairs s.activeAxis 1) := by
  have hburst : MainRun Q (1 * (2 * s.params.phaseTicks + 1) + 1) s
      { s with mCnt := 1, pulseRem := 0, mstate := .cycleEnd } (pulsePairs s.activeAxis 1) := by
    have hrun := MainRun.burst (Q := Q) h
    rw [hr, if_neg (by decide : (1 : Count) ≠ 0), if_neg (Bool.eq_false_iff.1 hc)] at hrun
    exact hrun
  have hend : MainRun Q 1 { s with mCnt := 1, pulseRem := 0, mstate := .cycleEnd } s.microMoved [] :=
    MainRun.tick_silent (fun _ _ _ => mainRule_cycleEnd rfl) nofun (outputObs_self s)
  exact hburst.trans hend

/-- The tick of `M_JOYREAD` shows the direction output, if that changes. -/
theorem tickObs_joystickMoved {p : PortIn} (hm : s.mstate = .joyread) :
    tickObs s (s.latch p (s.joystickMoved a d)) = changeObs s.dirOut d Obs.dir := by
  rw [tickObs_eq, State.sent_of_not_tx (by simp [hm])]
  simp [outputObs, State.joystickMoved]

/-- From the samples on, a micro-move that nothing disturbs goes to the next poll, shows its direction and one pair, and reads
no byte (42_joystick_controller.md R170). -/
theorem joyread_microMove (h : s.Inv) (hm : s.mstate = .joyread) (hk : s.keepPulsing = true)
    (hu : s.Undisturbed (fun _ => True) (2 * s.params.phaseTicks + 3 + 1))
    (hmove : joystickMove s.params s.input.adcLr s.input.adcUd = some (a, d)) :
    ∃ c, ticks (2 * s.params.phaseTicks + 3 + 1) s = .next ((s.latch s.input (s.joystickMoved a d)).microMoved.withClock c) ∧
      trace (2 * s.params.phaseTicks + 3 + 1) s = changeObs s.dirOut d Obs.dir ++ pulsePairs a 1 ∧
      receivedBytes (2 * s.params.phaseTicks + 3 + 1) s = [] := by
  obtain ⟨hc, _⟩ := h.none_pending (by rw [hm]; rfl)
  have hidle : s.lstate = .idle := (s.mainEn_iff.1 hu.enabled.2).1
  have hs : step s = .next (s.latch s.input (s.joystickMoved a d)) := by
    rw [step_joyread hu.enabled hm, State.joyreadRule_move hmove]
  have hstart : (s.latch s.input (s.joystickMoved a d)).BurstStart := (h.step hs).burstStart rfl hk hidle
  obtain ⟨c, ht, htr⟩ := (MainRun.microMove hstart rfl hc).run (hu.step hs)
  have hpoll : (s.latch s.input (s.joystickMoved a d)).ticksToPoll = 2 * s.params.phaseTicks + 3 := by
    simp [State.ticksToPoll, State.checkToPoll, State.joystickMoved, hk, hc]
  refine ⟨c, (ticks_succ hs).trans ht, ?_, ?_⟩
  · rw [trace_succ hs, tickObs_joystickMoved hm]
    exact congrArg (_ ++ ·) htr
  · rw [receivedBytes_succ hs, State.received_of_not_decoding (by simp [hm]) (by simp [hm]),
      receivedBytes_eq_nil_of_le_ticksToPoll (hu.step hs) hpoll.ge]
    rfl

end MicroMove

/-- Settles O43: the trace of a micro-move is its direction and one pair. -/
theorem microMoveIsOnePair : Obligations.MicroMoveIsOnePair := by
  intro s a d hinv hm hk hn hl hmove
  obtain ⟨c, ht, htr, hbytes⟩ := joyread_microMove hinv hm hk ⟨hn, fun _ _ => trivial, fun _ => hl⟩ hmove
  have hedges (b : Axis) (v : Bool) : edges b v (trace (2 * s.params.phaseTicks + 4) s) = if b = a then 1 else 0 := by
    rw [htr, edges_append, edges_dirObs, edges_pulsePairs, Nat.zero_add]
  have hsent : sentBytes (trace (2 * s.params.phaseTicks + 4) s) = [] := by
    rw [htr, sentBytes_append, sentBytes_dirObs, sentBytes_pulsePairs, List.nil_append]
  exact ⟨_, ht, rfl, rfl, rfl, rfl, rfl, rfl, hk, rfl, (hedges a true).trans (if_pos rfl),
    (hedges a false).trans (if_pos rfl), fun b v hb => (hedges b v).trans (if_neg hb), hsent, hbytes⟩

end Sys2Proof.Machine

/-! The response encoder: the frames that are built and the ticks that build and send them, the boot notice after a reset, and
the transaction of a query from its first byte on the wire (43_response_encoder.md R181 to R189). -/

namespace Sys2Proof.Machine

/-! ### The frames -/

/-- Settles O9: the reply is built from `remote_used` alone. -/
theorem queryReportsAndClearsRemoteUsed : Obligations.QueryReportsAndClearsRemoteUsed :=
  fun _ _ _ _ _ _ => rfl

/-- Settles O10: each of the four is a frame put into the buffer. -/
theorem emittedFramesAreBuilt : Obligations.EmittedFramesAreBuilt :=
  fun _ _ => ⟨rfl, rfl, rfl, rfl⟩

/-! ### The ticks that build a frame -/

/-- The status byte by the two flags (43_response_encoder.md R182). -/
theorem State.statusByte_eq (s : State) :
    s.statusByte = if s.limitHit = true ∧ s.gotoLimit = false then 0x0F else 0xF0 := by
  have hflags : s.unexpectedLimit = true ↔ s.limitHit = true ∧ s.gotoLimit = false := by
    simp [State.unexpectedLimit]
  exact if_congr hflags rfl rfl

section Build
variable {s : State} (he : s.Enabled)
include he

theorem step_resp (hm : s.mstate = .resp) : step s = .next (s.latch s.input (s.buildFrame s.statusByte 0x00)) :=
  step_of_main s _ he.1 he.2 (mainRule_resp hm)

theorem step_boot (hm : s.mstate = .boot) : step s = .next (s.latch s.input (s.buildFrame 0xFF 0x00)) :=
  step_of_main s _ he.1 he.2 (mainRule_boot hm)

theorem step_qresp (hm : s.mstate = .qresp) :
    step s = .next (s.latch s.input (s.replyUsed (usedByte s.remoteUsed))) :=
  step_of_main s _ he.1 he.2 (mainRule_qresp hm)

end Build

/-- Settles O35: the status byte by the two flags. -/
theorem statusFrameByTheTwoFlags : Obligations.StatusFrameByTheTwoFlags := by
  intro s he hm
  rw [step_resp he hm, State.statusByte_eq]
  rfl

/-- Settles O36: the ticks of `M_BOOT` and of `M_QRESP`. -/
theorem bootNoticeAndQueryReplyAreBuilt : Obligations.BootNoticeAndQueryReplyAreBuilt :=
  fun _ he => ⟨step_boot he, step_qresp he⟩

/-! ### `M_TX` -/

section Transmit
variable {s : State} {p : PortIn}

theorem State.txRule_wait (hr : p.txReady = false) : s.txRule p = s :=
  if_neg (Bool.eq_false_iff.1 hr)

theorem State.txRule_taken (hr : LinkTakes p) :
    s.txRule p = if s.txIdx = 3 then { s with mstate := .cycleEnd } else { s with txIdx := s.txIdx + 1 } :=
  if_pos hr

theorem step_tx (he : s.Enabled) (hm : s.mstate = .tx) : step s = .next (s.latch s.input (s.txRule s.input)) :=
  step_of_main s _ he.1 he.2 (mainRule_tx hm)

end Transmit

/-- Settles O37: by whether the link takes the byte. -/
theorem transmitSendsByteByByte : Obligations.TransmitSendsByteByByte := by
  intro s he hm
  obtain ⟨hidle, hpend⟩ := s.mainEn_iff.1 he.2
  have hdata : s.txData = s.txBuf.bytes.getD s.txIdx.toNat 0 := s.txBuf.read_eq s.txIdx
  refine ⟨s.txValid_iff.2 ⟨hidle, hpend, hm⟩, hdata, fun hr => ?_, fun hr => ?_⟩
  · refine ⟨State.sent_of_not_ready hr, ?_⟩
    rw [step_tx he hm, State.txRule_wait hr]
  · refine ⟨(State.sent_of_ready he.2 hm hr).trans (congrArg some hdata), ?_⟩
    rw [step_tx he hm, State.txRule_taken hr]

/-! ### The boot notice -/

/-- From `M_BOOT` the notice is built and sent, and the first cycle begins, in six ticks (43_response_encoder.md R181,
70_reset_and_hazards.md R261). -/
theorem MainRun.bootNotice {s : State} (hm : s.mstate = .boot) :
    MainRun LinkTakes 6 s
      { s.clearCycleFlags with txBuf := ⟨0x07, 0xFF, 0x00, 0x0A⟩, txIdx := 3, mstate := .poll }
      ([0x07, 0xFF, 0x00, 0x0A].map Obs.sent) := by
  have hbuild : MainRun LinkTakes 1 s (s.buildFrame 0xFF 0x00) [] :=
    tick_silent (fun _ _ _ => mainRule_boot hm) (by simp [hm]) (outputObs_self s)
  exact hbuild.trans (sendAndEnd rfl rfl) rfl rfl

/-- Settles O38: a reset tick leaves MAIN at `M_BOOT`, six ticks from its first poll. -/
theorem bootNoticeComesFirst : Obligations.BootNoticeComesFirst := by
  intro s hcalm
  obtain ⟨c, ht, htr⟩ := (MainRun.bootNotice (s := s.resetTick) rfl).run hcalm.undisturbed
  have hnone : receivedBytes 6 s.resetTick = [] :=
    receivedBytes_eq_nil_of_le_ticksToPoll (hcalm.undisturbed.take le_rfl fun _ _ => trivial) le_rfl
  exact ⟨_, ht, rfl, rfl, rfl, rfl, rfl, hnone, htr⟩

/-! ### A query from its first byte on -/

section Query
variable {s x : State} {b : Payload} {p : PortIn} {k : Nat}

/-- The state in which the query in `b` is about to be answered. -/
def State.queried (s : State) (b : Payload) : State :=
  { s with buf := b, rxIdx := 6, queryPend := true, mstate := .qresp }

/-- The state at the next poll after the answer to a query (43_response_encoder.md R184, 44_control_loop.md R205). -/
def State.answeredQuery (s : State) : State :=
  { s.clearCycleFlags with
    txBuf := ⟨0x07, 0x00, usedByte s.remoteUsed, 0x0A⟩
    txIdx := 3
    remoteUsed := false
    mstate := .poll }

theorem mainRule_parseQuery (hm : s.mstate = .parse) (he : s.buf.last = endByte) (hq : ctrlQuery s.buf.ctrl = true) :
    mainRule p s = .next { s with queryPend := true, mstate := .dispatch } := by
  rw [mainRule_parse hm, State.parseRule, State.setPending, if_pos he, if_pos hq]

theorem mainRule_dispatchQuery (hm : s.mstate = .dispatch) (hc : s.cmdPend = false) (hq : s.queryPend = true) :
    mainRule p s = .next { s with mstate := .qresp } := by
  rw [mainRule_dispatch hm, State.dispatchRule, if_neg (Bool.eq_false_iff.1 hc), if_pos hq]

namespace MainRun

/-- A captured query is answered from the second tick after its last byte on (40_command_decoder.md R113,
44_control_loop.md R202). -/
theorem parseAndDispatchQuery {Q : PortIn → Prop} (hc : s.cmdPend = false) (he : b.last = endByte)
    (hq : ctrlQuery b.ctrl = true) :
    MainRun Q 2 { s with buf := b, rxIdx := 6, mstate := .parse } (s.queried b) [] := by
  have hparse : MainRun Q 1 { s with buf := b, rxIdx := 6, mstate := .parse }
      { s with buf := b, rxIdx := 6, queryPend := true, mstate := .dispatch } [] :=
    tick_silent (fun _ _ _ => mainRule_parseQuery rfl he hq) nofun (outputObs_self s)
  have hdispatch : MainRun Q 1 { s with buf := b, rxIdx := 6, queryPend := true, mstate := .dispatch } (s.queried b) [] :=
    tick_silent (fun _ _ _ => mainRule_dispatchQuery rfl hc rfl) nofun (outputObs_self s)
  exact hparse.trans hdispatch

/-- A query is answered by `remote_used`, which is cleared, and its cycle ends, in six ticks (43_response_encoder.md R184). -/
theorem answerQuery (hm : s.mstate = .qresp) :
    MainRun LinkTakes 6 s s.answeredQuery ([0x07, 0x00, usedByte s.remoteUsed, 0x0A].map Obs.sent) := by
  have hbuild : MainRun LinkTakes 1 s (s.replyUsed (usedByte s.remoteUsed)) [] :=
    tick_silent (fun _ _ _ => mainRule_qresp hm) (by simp [hm]) (outputObs_self s)
  exact hbuild.trans (sendAndEnd rfl rfl) rfl rfl

end MainRun

/-- A frame offered on the wire is read in eight ticks, and what its check and dispatch make of it stands two ticks later;
nothing is shown and nothing else is read (40_command_decoder.md R111 to R113). -/
theorem FrameOffered.dispatched (h : FrameOffered (10 + k) s b.frame)
    (hrun : MainRun LinkTakes 2 { s with buf := b, rxIdx := 6, mstate := .parse } x []) :
    ∃ c, ticks 10 s = .next (x.withClock c) ∧ trace 10 s = [] ∧ receivedBytes 10 s = b.frame ∧
      (x.withClock c).Undisturbed LinkTakes k := by
  obtain ⟨hm, hcmd, hquery, _⟩ := h.idle
  have hu : s.Undisturbed LinkTakes (8 + (2 + k)) := by
    rw [← Nat.add_assoc]
    exact h.calm.undisturbed
  obtain ⟨c₁, ht, htr, hbytes, hu₁⟩ := CaptureRun.frame hm hcmd hquery b s.clock (2 + k) hu h.offered
  obtain ⟨c, ht₁, htr₁, hu₂⟩ := hrun c₁ k hu₁
  have hnone : receivedBytes 2 _ = [] :=
    receivedBytes_eq_nil_of_le_ticksToPoll (hu₁.take (Nat.le_add_right 2 k) fun _ _ => trivial) le_rfl
  refine ⟨c, (ticks_add (k := 2) ht).trans ht₁, ?_, ?_, hu₂⟩
  · exact (trace_add (k := 2) ht).trans (by rw [htr, htr₁]; rfl)
  · exact (receivedBytes_add (k := 2) ht).trans (by rw [hbytes, hnone, List.append_nil])

/-- A query offered on the wire: ten ticks that read its frame and show nothing, and then six that send the reply, in which
nothing is read (43_response_encoder.md R188). -/
theorem FrameOffered.queryAnswered (h : FrameOffered 16 s b.frame) (he : b.last = endByte)
    (hq : ctrlQuery b.ctrl = true) :
    ∃ c, ticks 16 s = .next ((s.queried b).answeredQuery.withClock c) ∧ receivedBytes 16 s = b.frame ∧
      trace 16 s = [0x07, 0x00, usedByte s.remoteUsed, 0x0A].map Obs.sent := by
  obtain ⟨_, hcmd, _, _⟩ := h.idle
  obtain ⟨c₁, ht, htr, hbytes, hu⟩ := h.dispatched (k := 6) (MainRun.parseAndDispatchQuery hcmd he hq)
  obtain ⟨c, ht₁, htr₁, _⟩ := MainRun.answerQuery (s := s.queried b) rfl c₁ 0 hu
  have hnone : receivedBytes 6 _ = [] :=
    receivedBytes_eq_nil_of_le_ticksToPoll (hu.take le_rfl fun _ _ => trivial) le_rfl
  refine ⟨c, (ticks_add (k := 6) ht).trans ht₁, ?_, ?_⟩
  · exact (receivedBytes_add (k := 6) ht).trans (by rw [hbytes, hnone, List.append_nil])
  · exact (trace_add (k := 6) ht).trans (by rw [htr, htr₁]; rfl)

end Query

/-- Settles O39: the frame of `QUERY` is captured and answered; no micro-move is under way at the poll, so `joy_prev` is 0
at the end of the cycle. -/
theorem queryTransactionHasItsNetEffect : Obligations.QueryTransactionHasItsNetEffect := by
  intro s axis dir ign g count h
  have hjoy : s.joyNow = false := by
    obtain ⟨hm, _⟩ := h.idle
    exact h.inv.joyNow_eq_false (by rw [hm]; rfl) (by simp [hm])
  rw [encode, ← Payload.frame_ofFields] at h ⊢
  obtain ⟨c, ht, hbytes, htr⟩ := h.queryAnswered rfl (ctrlQuery_ctrlByte axis dir true ign)
  exact ⟨_, ht, rfl, rfl, rfl, rfl, hjoy, rfl, rfl, rfl, rfl, hbytes, htr⟩

end Sys2Proof.Machine

/-! The control loop: MAIN's successor table (44_control_loop.md R206), read off the moves of an enabled tick, and the two states
of the loop itself, `M_DISPATCH` and `M_END`, at a single tick (R202, R205). -/

namespace Sys2Proof.Machine

section Successor
variable {p : PortIn} {s t : State}

/-! ### The successor table -/

/-- Each move of MAIN leads to the state that its line of the table names (44_control_loop.md R206). -/
theorem MainMove.mstate_eq_successor (h : MainMove p s t) : t.mstate = s.successor p := by
  cases h with
  | boot hm | resp hm | qresp hm | cycleEnd hm => simp [State.successor, hm]
  | pollPass hm h =>
    rcases h with hc | hq | hno
    · simp [State.successor, hm, hc]
    · simp [State.successor, hm, hq]
    · rw [startByte] at hno
      simp only [State.successor, hm, if_neg hno, ite_self]
  | pollStart hm hc hq hv hd => simp [State.successor, hm, hc, hq, hv, hd, startByte]
  | collectWait hm hv => simp [State.successor, hm, hv]
  | collectByte hm _ _ hi =>
    simp only [State.successor, hm]
    exact (if_neg fun h => hi h.2).symm
  | collectLast hm hv _ hi => simp [State.successor, hm, hv, hi]
  | parseQuery hm | parseCommand hm | parseDrop hm => simp [State.successor, hm]
  | dispatchCommand hm hc => simp [State.successor, hm, hc]
  | dispatchQuery hm hc hq | dispatchJoystick hm hc hq => simp [State.successor, hm, hc, hq]
  | exec hm => simp [State.successor, hm, ctrlAxis_eq_reserved_iff]
  | pcheckStart hm hk hr =>
    simp only [State.successor, hm]
    exact (if_pos ⟨hk, hr⟩).symm
  | pcheckLeave hm h =>
    have hstop : ¬(s.keepPulsing = true ∧ s.pulseRem ≠ 0) := by
      rintro ⟨hk, hr⟩
      exact h.elim (Bool.eq_false_iff.1 · hk) hr
    simp only [State.successor, hm, if_neg hstop]
  | phighWait hm hc | plowWait hm hc => simp [State.successor, hm, Nat.not_le.2 hc]
  | phighEnd hm hc | plowEnd hm hc => simp [State.successor, hm, hc]
  | txWait hm hr => simp [State.successor, hm, hr]
  | txByte hm _ hi =>
    simp only [State.successor, hm]
    exact (if_neg fun h => hi h.2).symm
  | txLast hm hr hi => simp [State.successor, hm, hr, hi]
  | joywaitCount hm hc | joywaitDone hm hc => simp [State.successor, hm, hc]
  | joyreadMove hm hj | joyreadNone hm hj => simp [State.successor, hm, hj]

/-- No line of the table leads to `M_BOOT` (44_control_loop.md R206). -/
theorem State.successor_ne_boot : s.successor p ≠ .boot := by
  unfold State.successor
  repeat' split
  all_goals nofun

end Successor

/-- Settles O16: reset gives `M_BOOT`, an enabled tick is a move of MAIN, and LSM's moves leave MAIN's elements alone. -/
theorem successorsAreTheTable : Obligations.SuccessorsAreTheTable := by
  intro s t h
  refine ⟨fun hr => ?_, fun he => ?_, fun hh => ?_⟩
  · cases (step_of_reset s hr).symm.trans h
    rfl
  · obtain ⟨u, hmove, rfl⟩ := step_mainMove he h
    have hsucc : (s.latch s.input u).mstate = s.successor s.input := hmove.mstate_eq_successor
    exact ⟨hsucc, hsucc ▸ State.successor_ne_boot⟩
  · obtain ⟨u, hmove, rfl⟩ := step_lsmMove hh h
    exact hmove.sameMain.latch.mstate

/-! ### `M_DISPATCH` and `M_END` -/

/-- Settles O24: with neither flag set the delay is the one `joy_prev` asks for (42_joystick_controller.md R160). -/
theorem dispatchPrefersCommandThenQuery : Obligations.DispatchPrefersCommandThenQuery := by
  intro s he hm
  refine step_of_main s _ he.1 he.2 ?_
  split
  · next hc => exact mainRule_dispatchCommand hm hc
  · next hc =>
    split
    · next hq => exact mainRule_dispatchQuery hm (Bool.eq_false_iff.2 hc) hq
    · next hq =>
      rw [mainRule_dispatchJoystick hm (Bool.eq_false_iff.2 hc) (Bool.eq_false_iff.2 hq), State.joystickDelay]
      split <;> rfl

/-- Settles O25: the next cycle begins at `M_POLL` with the per-cycle flags cleared. -/
theorem cycleEndClearsTheSixFlags : Obligations.CycleEndClearsTheSixFlags := by
  intro s he hm
  exact step_of_main s _ he.1 he.2 (mainRule_cycleEnd hm)

end Sys2Proof.Machine

/-! The limit safety monitor at single ticks: each of its moves as a tick, an input that does not rise, and the ticks from a rise
to the entry (60_exceptions.md R220 to R237, 70_reset_and_hazards.md R276). -/

namespace Sys2Proof.Machine

section Monitor
variable {s x : State}

/-! ### The moves as ticks -/

/-- LSM has one move in each state: the one its rule makes. -/
theorem LsmMove.eq_lsmRule (h : LsmMove s x) : x = s.lsmRule := by
  cases h with
  | rest hl hp | take hl hp => simp [State.lsmRule, hl, State.lIdleRule, hp, State.takeInterrupt]
  | debounceCount hl hc | debounceDone hl hc => simp [State.lsmRule, hl, State.lDebounceRule, hc]
  | checkReverse hl hi hc => simp [State.lsmRule, hl, State.lCheckRule, State.limitIn, hi, hc, State.dirWrite]
  | checkLeave hl h => simp [State.lsmRule, hl, State.lCheckRule, State.limitIn, h, State.leaveInterrupt]
  | loopPulse hl hi => simp [State.lsmRule, hl, State.lLoopRule, State.limitIn, hi, State.stepWrite_active]
  | loopDone hl hi => simp [State.lsmRule, hl, State.lLoopRule, State.limitIn, hi]
  | highWait hl hc => simp [State.lsmRule, hl, State.lHighRule, hc]
  | highEnd hl hc => simp [State.lsmRule, hl, State.lHighRule, Nat.not_lt.2 hc, State.stepWrite_active]
  | lowWait hl hc => simp [State.lsmRule, hl, State.lLowRule, hc]
  | lowEnd hl hc => simp [State.lsmRule, hl, State.lLowRule, Nat.not_lt.2 hc]
  | finish hl => simp [State.lsmRule, hl, State.lFinishRule, State.markLimitHit, State.leaveInterrupt]

/-- A tick at which a handler runs or is pending makes LSM's move (60_exceptions.md R224). -/
theorem step_of_lsmMove (hr : s.input.rst = false) (hl : s.lstate ≠ .idle ∨ s.limPend = true) (h : LsmMove s x) :
    step s = .next (s.latch s.input x) :=
  h.eq_lsmRule ▸ step_of_handler s hr hl

theorem State.held_of_handler (hr : s.input.rst = false) (hl : s.lstate ≠ .idle ∨ s.limPend = true) : s.Held := by
  refine ⟨hr, ?_⟩
  rcases hl with hl | hl <;> simp [State.mainEn, hl]

end Monitor

/-- Settles O45: the moves of `L_IDLE` and `L_DEBOUNCE`. -/
theorem interruptEntryAndDebounce : Obligations.InterruptEntryAndDebounce :=
  fun _ hr =>
    ⟨fun hl hp => step_of_lsmMove hr (.inr hp) (.take hl hp),
      fun hl hc => step_of_lsmMove hr (.inl (by simp [hl])) (.debounceCount hl hc),
      fun hl hc => step_of_lsmMove hr (.inl (by simp [hl])) (.debounceDone hl hc)⟩

/-- Settles O46: the moves of `L_CHECK` and `L_FINISH`. -/
theorem handlerChecksAndFinishes : Obligations.HandlerChecksAndFinishes := by
  refine fun s hr => ⟨fun hl hi hc => ?_, fun hl h => ?_, fun hl => ?_⟩
  · exact step_of_lsmMove hr (.inl (by simp [hl])) (.checkReverse hl hi hc)
  · refine step_of_lsmMove hr (.inl (by simp [hl])) (.checkLeave hl fun ⟨hi, hc⟩ => ?_)
    rcases h with h | h <;> simp [h] at hi hc
  · exact step_of_lsmMove hr (.inl (by simp [hl])) (.finish hl)

/-- Settles O47: the moves of `L_LOOP`, `L_HIGH` and `L_LOW`. -/
theorem retreatPulsesWhileAsserted : Obligations.RetreatPulsesWhileAsserted := by
  intro s hr
  have htick {x : State} (hl : s.lstate ≠ .idle) (h : LsmMove s x) : step s = .next (s.latch s.input x) :=
    step_of_lsmMove hr (.inl hl) h
  exact ⟨fun hl hi => htick (by simp [hl]) (.loopPulse hl hi), fun hl hi => htick (by simp [hl]) (.loopDone hl hi),
    fun hl hc => htick (by simp [hl]) (.highWait hl hc), fun hl hc => htick (by simp [hl]) (.highEnd hl hc),
    fun hl hc => htick (by simp [hl]) (.lowWait hl hc), fun hl hc => htick (by simp [hl]) (.lowEnd hl hc)⟩

/-- Settles O52: the pending latch takes the edge, and the entry is LSM's move. -/
theorem edgeDuringTheHandlerStartsItAgain : Obligations.EdgeDuringTheHandlerStartsItAgain := by
  refine ⟨fun s t hr hl hs h => ?_, fun t hr hl hp => ?_⟩
  · obtain ⟨_, _, _, _, _, hpend⟩ := tickShiftsSynchroniser s t hr hs
    exact hpend.2 (h.symm.imp_right fun hp => ⟨hp, hl⟩)
  · have hmv : LsmMove t { t with lCnt := t.params.debounceTicks, lstate := .debounce } := .take hl hp
    exact ⟨(State.held_of_handler hr (.inr hp)).2, _, step_of_lsmMove hr (.inr hp) hmv, rfl, rfl, hmv.sameMain.latch,
      rfl, rfl, rfl, rfl, rfl, rfl⟩

section Undisturbed
variable {s t : State} {k : Nat}

/-! ### No edge -/

/-- An undisturbed run keeps MAIN enabled and LSM at rest (60_exceptions.md R220). -/
theorem State.Undisturbed.stays_enabled {Q : PortIn → Prop} {j : Nat} (hu : s.Undisturbed Q k) (he : s.mainEn = true)
    (hj : j ≤ k) (h : ticks j s = .next t) : t.mainEn = true ∧ t.lCnt = s.lCnt := by
  induction j generalizing s k with
  | zero => cases h; exact ⟨he, rfl⟩
  | succ j ih =>
    obtain ⟨k, rfl⟩ := Nat.exists_eq_add_of_le' hj
    obtain ⟨u, hs, hrun⟩ := step_of_ticks_succ h
    have hu : s.Undisturbed Q (k + j + 1) := hu
    obtain ⟨x, hmv, rfl⟩ := step_mainMove hu.enabled hs
    obtain ⟨hl, hc⟩ := hmv.lsm_unchanged
    have hedge : s.limS = true → s.limPrev = true := (hu.no_rise (Nat.succ_pos _)).2.1
    obtain ⟨het, hct⟩ := ih (hu.step hs) (State.mainEn_latch he hedge hl) (Nat.le_add_left _ _) hrun
    exact ⟨het, hct.trans hc⟩

end Undisturbed

/-- Settles O50: without a rise the run is undisturbed. -/
theorem noRisingEdgeNoInterrupt : Obligations.NoRisingEdgeNoInterrupt := by
  intro s t k j hn hrise hj h
  have hu : s.Undisturbed (fun _ => True) k := ⟨hn, fun _ _ => trivial, fun _ => hrise⟩
  obtain ⟨he, hc⟩ := hu.stays_enabled hrise.1 hj h
  exact ⟨he, (t.mainEn_iff.1 he).1, hc⟩

/-! ### A rise -/

/-- An enabled tick from a state with the invariant: the synchroniser shifts, and only an edge makes the interrupt pending
(60_exceptions.md R221). -/
theorem State.Inv.enabled_step {s : State} (h : s.Inv) (he : s.Enabled) :
    ∃ t, Machine.step s = .next t ∧ t.Inv ∧ t.lstate = .idle ∧ t.limMeta = s.input.limitIn ∧ t.limS = s.limMeta ∧
      t.limPrev = s.limS ∧ t.limPend = s.edge := by
  obtain ⟨t, hs, hinv⟩ := h.progress
  have hidle : s.lstate = .idle := (s.mainEn_iff.1 he.2).1
  obtain ⟨x, hmv, rfl⟩ := step_mainMove he hs
  refine ⟨_, hs, hinv, hmv.lsm_unchanged.1.trans hidle, rfl, rfl, rfl, ?_⟩
  simp [State.nextLimPend, hidle]

/-- Settles O53: the rise needs two ticks to reach `lim_s`, and is an edge at the third. -/
theorem limitRiseHoldsMainThreeTicksLater : Obligations.LimitRiseHoldsMainThreeTicksLater := by
  intro s hinv hn he hmeta hlim hin
  obtain ⟨t1, hs1, hinv1, hl1, hmeta1, hlim1, hprev1, hpend1⟩ := hinv.enabled_step ⟨hn 0 (by decide), he⟩
  have hn1 : t1.NoReset 3 := State.NoReset.tail hn hs1
  have he1 : t1.mainEn = true := t1.mainEn_iff.2 ⟨hl1, by simp [hpend1, State.edge, hlim]⟩
  obtain ⟨t2, hs2, hinv2, hl2, _, hlim2, hprev2, hpend2⟩ := hinv1.enabled_step ⟨hn1 0 (by decide), he1⟩
  have hn2 : t2.NoReset 2 := State.NoReset.tail hn1 hs2
  have he2 : t2.mainEn = true := t2.mainEn_iff.2 ⟨hl2, by simp [hpend2, State.edge, hlim1, hmeta]⟩
  obtain ⟨t3, hs3, _, hl3, _, _, _, hpend3⟩ := hinv2.enabled_step ⟨hn2 0 (by decide), he2⟩
  have hp3 : t3.limPend = true := by simp [hpend3, State.edge, hlim2, hmeta1, hin, hprev2, hlim1, hmeta]
  have hr3 : t3.input.rst = false := State.NoReset.tail hn2 hs3 0 (by decide)
  refine ⟨t1, t2, t3, _, hs1, hs2, hs3, step_of_lsmMove hr3 (.inr hp3) (.take hl3 hp3), he1, he2,
    (State.held_of_handler hr3 (.inr hp3)).2, hp3, hl3, rfl, ?_⟩
  simp [State.nextLimPend, State.edge, hl3]

end Sys2Proof.Machine

/-! Runs of the limit handler: the part up to the re-check, in which nothing but LSM's own elements is written, the retreat, and a
whole activation (60_exceptions.md R225 to R239, 70_reset_and_hazards.md R271, R277, R278). -/

namespace Sys2Proof.Machine

/-! ### What a tick shows of one axis -/

section Edges
variable {s t : State} {k : Nat}

/-- A tick shows an edge of an axis exactly if the axis's step output changes. -/
theorem edges_tickObs (s t : State) (a : Axis) (v : Bool) :
    edges a v (tickObs s t) = if t.stepOf a ≠ s.stepOf a ∧ t.stepOf a = v then 1 else 0 := by
  have hchange (b : Axis) (before after : Bool) : edges a v (changeObs before after (Obs.edge b)) =
      if b = a ∧ after ≠ before ∧ after = v then 1 else 0 := by
    unfold changeObs edges
    by_cases hb : b = a <;> cases before <;> cases after <;> cases v <;> simp [hb]
  simp only [tickObs, edges_append, edges_map_sent, edges_dirObs, hchange]
  cases a <;> simp [State.stepOf] <;> rfl

theorem edges_tickObs_of_same {a : Axis} {v : Bool} (h : t.stepOf a = s.stepOf a) : edges a v (tickObs s t) = 0 := by
  rw [edges_tickObs, if_neg fun hc => hc.1 h]

/-- Along any run the rises and falls of a step output account for its level. -/
theorem edges_balance (h : ticks k s = .next t) (a : Axis) :
    edges a true (trace k s) + (s.stepOf a).toNat = edges a false (trace k s) + (t.stepOf a).toNat := by
  induction k generalizing s with
  | zero => cases h; rfl
  | succ k ih =>
    obtain ⟨u, hs, hu⟩ := step_of_ticks_succ h
    have hrest := ih hu
    have htick : edges a true (tickObs s u) + (s.stepOf a).toNat = edges a false (tickObs s u) + (u.stepOf a).toNat := by
      rw [edges_tickObs, edges_tickObs]
      cases s.stepOf a <;> cases u.stepOf a <;> rfl
    rw [trace_succ hs, edges_append, edges_append]
    omega

end Edges

/-! ### Runs that show nothing -/

section Quiet
variable {s t u x : State} {j k : Nat} {p : PortIn}

theorem SameMain.refl (s : State) : SameMain s s := by
  constructor <;> rfl

theorem SameMain.trans (h : SameMain s t) (h' : SameMain t u) : SameMain s u :=
  ⟨h'.mstate.trans h.mstate, h'.mCnt.trans h.mCnt, h'.rxIdx.trans h.rxIdx, h'.txIdx.trans h.txIdx, h'.buf.trans h.buf,
    h'.txBuf.trans h.txBuf, h'.pulseRem.trans h.pulseRem, h'.cmdPend.trans h.cmdPend, h'.queryPend.trans h.queryPend,
    h'.gotoLimit.trans h.gotoLimit, h'.joyNow.trans h.joyNow, h'.joyPrev.trans h.joyPrev,
    h'.remoteUsed.trans h.remoteUsed, h'.activeAxis.trans h.activeAxis, h'.activeDir.trans h.activeDir,
    h'.params.trans h.params⟩

theorem SameShared.refl (s : State) : SameShared s s := by
  constructor <;> rfl

theorem SameShared.trans (h : SameShared s t) (h' : SameShared t u) : SameShared s u :=
  ⟨h'.stepX.trans h.stepX, h'.stepY.trans h.stepY, h'.stepZ.trans h.stepZ, h'.dirOut.trans h.dirOut,
    h'.limitHit.trans h.limitHit, h'.keepPulsing.trans h.keepPulsing⟩

/-- The latch writes nothing that both agents write. -/
theorem SameShared.latch (h : SameShared s t) : SameShared s (s.latch p t) := { h with }

theorem SameShared.stepOf (h : SameShared s t) (a : Axis) : t.stepOf a = s.stepOf a :=
  State.stepOf_congr h.stepX h.stepY h.stepZ a

theorem SameShared.outputObs (h : SameShared s t) : outputObs s t = [] := by
  simp [Machine.outputObs, h.stepX, h.stepY, h.stepZ, h.dirOut]

/-- The elements of MAIN, those that both agents write, LSM's own, the synchroniser and the environment's clock are the whole
state (10_state.md R10, R38). -/
theorem State.eq_of_same (hm : SameMain s t) (hs : SameShared s t) :
    t = { s with
      lstate := t.lstate, lCnt := t.lCnt, limMeta := t.limMeta, limS := t.limS, limPrev := t.limPrev,
      limPend := t.limPend, inputs := t.inputs, tick := t.tick } := by
  obtain ⟨_, _, _, _, _, _, _, _, _, _, _, _, _, _, _, _⟩ := hm
  obtain ⟨_, _, _, _, _, _⟩ := hs
  cases s
  cases t
  simp_all

/-- `QuietRun k s t`: in `k` ticks from `s` to `t` nothing is written but LSM's own elements, nothing is shown and no byte is
taken. -/
structure QuietRun (k : Nat) (s t : State) : Prop where
  reached : ticks k s = .next t
  main : SameMain s t
  shared : SameShared s t
  silent : trace k s = []
  no_byte : receivedBytes k s = []

namespace QuietRun

theorem refl (s : State) : QuietRun 0 s s :=
  ⟨rfl, .refl s, .refl s, rfl, rfl⟩

theorem trans (h : QuietRun j s t) (h' : QuietRun k t u) : QuietRun (j + k) s u where
  reached := (ticks_add h.reached).trans h'.reached
  main := h.main.trans h'.main
  shared := h.shared.trans h'.shared
  silent := by rw [trace_add h.reached, h.silent, h'.silent]; rfl
  no_byte := by rw [receivedBytes_add h.reached, h.no_byte, h'.no_byte]; rfl

/-- A tick of the handler that writes nothing but LSM's own elements. -/
theorem tick (hr : s.input.rst = false) (hl : s.lstate ≠ .idle ∨ s.limPend = true) (h : LsmMove s x)
    (hshared : SameShared s x := by constructor <;> rfl) : QuietRun 1 s (s.latch s.input x) := by
  have hs := step_of_lsmMove hr hl h
  obtain ⟨_, _, hrecv, hsent⟩ := s.no_transfer_of_held (State.held_of_handler hr hl).2
  refine ⟨ticks_succ hs, h.sameMain.latch, hshared.latch, ?_, ?_⟩
  · rw [trace_succ hs, tickObs_eq, hsent, hshared.latch.outputObs]
    rfl
  · rw [receivedBytes_succ hs, hrecv]
    rfl

end QuietRun

theorem State.NoReset.mono (h : s.NoReset k) (hj : j ≤ k) : s.NoReset j :=
  fun i hi => h i (hi.trans_le hj)

/-- The samples after a run are still without reset. -/
theorem State.NoReset.drop (h : s.NoReset (j + k)) (ht : ticks j s = .next t) : t.NoReset k :=
  fun i hi => (congrArg PortIn.rst (ticks_inputAt ht i)).trans (h (j + i) (Nat.add_lt_add_left hi j))

/-! ### The entry and the debounce wait -/

/-- The debounce wait counts down whatever the input does (60_exceptions.md R226). -/
theorem debounce_counts (hl : s.lstate = .debounce) (hn : s.NoReset k) (hk : k ≤ s.lCnt) :
    ∃ u, QuietRun k s u ∧ u.lstate = .debounce ∧ u.lCnt = s.lCnt - k := by
  induction k with
  | zero => exact ⟨s, .refl s, hl, rfl⟩
  | succ k ih =>
    obtain ⟨u, hq, hlu, hcu⟩ := ih (hn.mono k.le_succ) (Nat.le_of_succ_le hk)
    have hr : u.input.rst = false := State.NoReset.drop hn hq.reached 0 Nat.one_pos
    have htick := QuietRun.tick hr (.inl (by simp [hlu])) (.debounceCount hlu (by omega))
    exact ⟨_, hq.trans htick, hlu, congrArg (· - 1) hcu⟩

/-- From a pending edge: the entry and then part of the wait (60_exceptions.md R225, R226). -/
theorem entry_counts (hl : s.lstate = .idle) (hp : s.limPend = true) (hn : s.NoReset (k + 1))
    (hk : k ≤ s.params.debounceTicks) :
    ∃ u, QuietRun (k + 1) s u ∧ u.lstate = .debounce ∧ u.lCnt = s.params.debounceTicks - k := by
  have hentry := QuietRun.tick (hn 0 k.succ_pos) (.inr hp) (.take hl hp)
  rw [Nat.add_comm] at hn
  obtain ⟨u, hq, hlu, hcu⟩ := debounce_counts (k := k) rfl (State.NoReset.drop hn hentry.reached) hk
  rw [Nat.add_comm]
  exact ⟨u, hentry.trans hq, hlu, hcu⟩

/-- From a pending edge to the re-check, `D + 2` ticks (60_exceptions.md R226). -/
theorem entry_to_check (hl : s.lstate = .idle) (hp : s.limPend = true) (hn : s.NoReset (s.params.debounceTicks + 2)) :
    ∃ u, QuietRun (s.params.debounceTicks + 2) s u ∧ u.lstate = .check ∧ u.lCnt = 0 := by
  obtain ⟨u, hq, hlu, hcu⟩ := entry_counts hl hp (hn.mono (Nat.le_succ _)) le_rfl
  have hr : u.input.rst = false := State.NoReset.drop (k := 1) hn hq.reached 0 Nat.one_pos
  rw [Nat.sub_self] at hcu
  exact ⟨_, hq.trans (.tick hr (.inl (by simp [hlu])) (.debounceDone hlu hcu)), rfl, hcu⟩

/-- The re-check that returns at once (60_exceptions.md R227). -/
theorem check_leaves (hl : s.lstate = .check) (hr : s.input.rst = false) (h : ¬(s.limS = true ∧ s.cmdPend = true)) :
    QuietRun 1 s (s.latch s.input { s with lstate := .idle }) :=
  .tick hr (.inl (by simp [hl])) (.checkLeave hl h)

end Quiet

/-- Settles O48: with `cmd_pend` 0 the re-check returns whatever it reads, and what is left to change is the synchroniser. -/
theorem edgeOutsideACommandOnlyDelays : Obligations.EdgeOutsideACommandOnlyDelays := by
  intro s hn hl hp hcmd
  obtain ⟨u, hq, hlu, hcu⟩ := entry_to_check hl hp (hn.mono (Nat.le_succ _))
  have hr : u.input.rst = false := State.NoReset.drop (k := 1) hn hq.reached 0 Nat.one_pos
  have hleave := hq.trans (check_leaves hlu hr fun h => by simp [hq.main.cmdPend, hcmd] at h)
  obtain ⟨hi, ht⟩ := ticks_clock hleave.reached
  refine ⟨_, hleave.reached, ?_, hleave.silent, hleave.no_byte⟩
  have heq := State.eq_of_same hleave.main hleave.shared
  rw [hi, ht] at heq
  rw [heq]
  simp [hl, hcu]

/-! ### Runs of an acting handler -/

/-- `HandlerRun k s t`: the handler runs at each of the `k` ticks without reset from `s` to `t`, by its moves. -/
inductive HandlerRun : Nat → State → State → Prop
  | refl (s : State) : HandlerRun 0 s s
  | tick {k : Nat} {s x t : State} (hr : s.input.rst = false) (hl : s.lstate ≠ .idle) (hmv : LsmMove s x)
      (hrest : HandlerRun k (s.latch s.input x) t) : HandlerRun (k + 1) s t

namespace HandlerRun
variable {s t : State} {k : Nat}

/-- A run without reset at which LSM is never at rest before its end. -/
theorem of_ticks (hn : s.NoReset k) (hb : ∀ j < k, ∀ u, ticks j s = .next u → u.lstate ≠ .idle)
    (h : ticks k s = .next t) : HandlerRun k s t := by
  induction k generalizing s with
  | zero => cases h; exact .refl _
  | succ k ih =>
    obtain ⟨u, hs, hu⟩ := step_of_ticks_succ h
    have hr : s.input.rst = false := hn 0 k.succ_pos
    have hl : s.lstate ≠ .idle := hb 0 k.succ_pos s rfl
    obtain ⟨x, hmv, rfl⟩ := step_lsmMove (State.held_of_handler hr (.inl hl)) hs
    refine .tick hr hl hmv (ih (State.NoReset.tail hn hs) (fun j hj v hv => ?_) hu)
    exact hb (j + 1) (Nat.succ_lt_succ hj) v ((ticks_succ hs).trans hv)

theorem reached (h : HandlerRun k s t) : ticks k s = .next t := by
  induction h with
  | refl => rfl
  | tick hr hl hmv _ ih => exact (ticks_succ (step_of_lsmMove hr (.inl hl) hmv)).trans ih

/-- MAIN's elements stay as they are (60_exceptions.md R224). -/
theorem sameMain (h : HandlerRun k s t) : SameMain s t := by
  induction h with
  | refl s => exact .refl s
  | tick hr hl hmv _ ih => exact hmv.sameMain.latch.trans ih

theorem receivedBytes_eq_nil (h : HandlerRun k s t) : receivedBytes k s = [] := by
  induction h with
  | refl => rfl
  | @tick _ s _ _ hr hl hmv _ ih =>
    obtain ⟨_, _, hrecv, _⟩ := s.no_transfer_of_held (State.held_of_handler hr (.inl hl)).2
    rw [receivedBytes_succ (step_of_lsmMove hr (.inl hl) hmv), hrecv, ih]
    rfl

theorem sentBytes_eq_nil (h : HandlerRun k s t) : sentBytes (trace k s) = [] := by
  induction h with
  | refl => rfl
  | @tick _ s _ _ hr hl hmv _ ih =>
    obtain ⟨_, _, _, hsent⟩ := s.no_transfer_of_held (State.held_of_handler hr (.inl hl)).2
    rw [trace_succ (step_of_lsmMove hr (.inl hl) hmv), sentBytes_append, sentBytes_tickObs, hsent, ih]
    rfl

end HandlerRun

section Retreat
variable {s t u x : State} {k r : Nat} {a : Axis} {v : Bool}

/-- The handler drives the active axis alone (60_exceptions.md R229, R230). -/
theorem LsmMove.stepOf_other (h : LsmMove s x) (ha : a ≠ s.activeAxis) : x.stepOf a = s.stepOf a := by
  cases h with
  | loopPulse | highEnd => exact (State.stepOf_driveStep s _ a).trans (if_neg fun h => ha h.1)
  | _ => exact State.stepOf_congr rfl rfl rfl a

/-- Outside `L_LOOP` and `L_HIGH` the handler drives no step output. -/
theorem LsmMove.stepOf_same (h : LsmMove s x) (hloop : s.lstate ≠ .loop) (hhigh : s.lstate ≠ .high) (a : Axis) :
    x.stepOf a = s.stepOf a := by
  cases h with
  | loopPulse hl => exact absurd hl hloop
  | highEnd hl => exact absurd hl hhigh
  | _ => exact State.stepOf_congr rfl rfl rfl a

theorem HandlerRun.edges_other (h : HandlerRun k s t) (ha : a ≠ s.activeAxis) : edges a v (trace k s) = 0 := by
  induction h with
  | refl => rfl
  | @tick _ s x _ hr hl hmv _ ih =>
    have hsame : (s.latch s.input x).stepOf a = s.stepOf a := hmv.stepOf_other ha
    have hrest := ih (hmv.sameMain.activeAxis.symm ▸ ha)
    rw [trace_succ (step_of_lsmMove hr (.inl hl) hmv), edges_append, edges_tickObs_of_same hsame, hrest]

/-! ### The retreat under a held input -/

/-- LSM is in the retreat: it tests the input or emits a retreat pulse (60_exceptions.md R229 to R231). -/
def State.Retreating (s : State) : Prop :=
  s.lstate = .loop ∨ s.lstate = .high ∨ s.lstate = .low

theorem State.Retreating.ne_idle (h : s.Retreating) : s.lstate ≠ .idle := by
  rcases h with h | h | h <;> simp [h]

/-- The elements of the retreat's result that no retreat pulse touches. -/
def SameResult (s t : State) : Prop :=
  t.limitHit = s.limitHit ∧ t.keepPulsing = s.keepPulsing ∧ t.dirOut = s.dirOut

/-- With the input at 1 the retreat goes on (60_exceptions.md R229). -/
theorem LsmMove.retreats (h : LsmMove s x) (hs : s.Retreating) (hi : s.limS = true) : x.Retreating ∧ SameResult s x := by
  cases h with
  | loopPulse => exact ⟨.inr (.inl rfl), rfl, rfl, rfl⟩
  | highEnd => exact ⟨.inr (.inr rfl), rfl, rfl, rfl⟩
  | lowEnd => exact ⟨.inl rfl, rfl, rfl, rfl⟩
  | highWait | lowWait => exact ⟨hs, rfl, rfl, rfl⟩
  | loopDone _ hno => simp [hi] at hno
  | rest hl | take hl | debounceCount hl | debounceDone hl | checkReverse hl | checkLeave hl | finish hl =>
    simp [State.Retreating, hl] at hs

theorem State.LimitHeld.tail (h : s.LimitHeld (k + 1)) (hs : step s = .next u) (hr : s.input.rst = false) :
    u.LimitHeld k := by
  obtain ⟨hmeta, _, hin⟩ := h
  obtain ⟨hm, hl, _⟩ := tickShiftsSynchroniser s u hr hs
  refine ⟨hm.trans (hin 0 k.succ_pos), hl.trans hmeta, fun j hj => ?_⟩
  rw [step_inputAt hs]
  exact hin (j + 1) (Nat.succ_lt_succ hj)

/-- While the input stays at 1 the handler stays in the retreat (70_reset_and_hazards.md R278). -/
theorem retreat_goes_on (hn : s.NoReset k) (hh : s.LimitHeld k) (hs : s.Retreating) :
    ∃ t, HandlerRun k s t ∧ t.Retreating ∧ SameResult s t := by
  induction k generalizing s with
  | zero => exact ⟨s, .refl s, hs, rfl, rfl, rfl⟩
  | succ k ih =>
    have hr : s.input.rst = false := hn 0 k.succ_pos
    have hmv : LsmMove s s.lsmRule := .of_lsmRule s
    have hstep := step_of_lsmMove hr (.inl hs.ne_idle) hmv
    obtain ⟨hret, hhit, hkeep, hdir⟩ := hmv.retreats hs hh.2.1
    obtain ⟨t, hrun, htret, hthit, htkeep, htdir⟩ :=
      ih (State.NoReset.tail hn hstep) (State.LimitHeld.tail hh hstep hr) hret
    exact ⟨t, .tick hr hs.ne_idle hmv hrun, htret, hthit.trans hhit, htkeep.trans hkeep, htdir.trans hdir⟩

/-! ### A retreat that ends -/

/-- The ticks until the retreat is next at its test of the input (60_exceptions.md R229 to R231). -/
def State.ticksToTest (s : State) : Nat :=
  match s.lstate with
  | .high => max s.lCnt 1 + s.params.phaseTicks
  | .low => max s.lCnt 1
  | _ => 0

/-- `Retreated k r s t`: a retreat that stands at `s` ends `k` ticks later at `t`, after `r` further pulses; a pulse that is in
its high phase at `s` also falls. -/
structure Retreated (k r : Nat) (s t : State) : Prop where
  duration : k = s.ticksToTest + r * (2 * s.params.phaseTicks + 1) + 2
  limit_hit : t.limitHit = true
  stopped : t.keepPulsing = false
  dir_out : t.dirOut = s.dirOut
  level : t.stepOf s.activeAxis = if r = 0 ∧ s.lstate ≠ .high then s.stepOf s.activeAxis else false
  falls : edges s.activeAxis false (trace k s) = r + if s.lstate = .high then 1 else 0

theorem State.ticksToTest_loop (hl : s.lstate = .loop) : s.ticksToTest = 0 := by
  simp [State.ticksToTest, hl]

theorem State.ticksToTest_high (hl : s.lstate = .high) : s.ticksToTest = max s.lCnt 1 + s.params.phaseTicks := by
  simp [State.ticksToTest, hl]

theorem State.ticksToTest_low (hl : s.lstate = .low) : s.ticksToTest = max s.lCnt 1 := by
  simp [State.ticksToTest, hl]

/-- `L_FINISH` takes one tick and drives no output (60_exceptions.md R233). -/
theorem HandlerRun.finishes (h : HandlerRun k s t) (hl : s.lstate = .finish) (ht : t.lstate = .idle) :
    k = 1 ∧ t.limitHit = true ∧ t.keepPulsing = false ∧ t.dirOut = s.dirOut ∧ (∀ a, t.stepOf a = s.stepOf a) ∧
      ∀ a v, edges a v (trace k s) = 0 := by
  cases h with
  | refl => simp [hl] at ht
  | @tick _ _ x _ hr hbusy hmv hrest =>
    have hs := step_of_lsmMove hr (.inl hbusy) hmv
    have hsame (a : Axis) : (s.latch s.input x).stepOf a = s.stepOf a :=
      hmv.stepOf_same (by simp [hl]) (by simp [hl]) a
    have hedges (a : Axis) (v : Bool) : edges a v (trace 1 s) = 0 := by
      rw [trace_succ hs, edges_append, edges_tickObs_of_same (hsame a)]
      rfl
    cases hmv with
    | finish =>
      cases hrest with
      | refl => exact ⟨rfl, rfl, rfl, rfl, hsame, hedges⟩
      | tick _ hbusy => exact absurd rfl hbusy
    | rest h | take h | debounceCount h | debounceDone h | checkReverse h | checkLeave h | loopPulse h | loopDone h
    | highWait h | highEnd h | lowWait h | lowEnd h => simp [hl] at h

namespace Retreated

section Tick
variable (h : Retreated k r u t) (hs : step s = .next u) (hm : SameMain s u)
include h hs hm

/-- A tick that drives no output and neither enters nor leaves a high phase. -/
theorem wait (hsh : SameShared s u) (hhigh : u.lstate = .high ↔ s.lstate = .high)
    (htest : s.ticksToTest = u.ticksToTest + 1) : Retreated (k + 1) r s t where
  duration := by
    have hk := h.duration
    rw [hm.params] at hk
    omega
  limit_hit := h.limit_hit
  stopped := h.stopped
  dir_out := h.dir_out.trans hsh.dirOut
  level := by simpa only [hm.activeAxis, hsh.stepOf, ne_eq, hhigh] using h.level
  falls := by
    have hf := h.falls
    simp only [hm.activeAxis, hhigh] at hf
    rw [trace_succ hs, edges_append, edges_tickObs_of_same (hsh.stepOf _), Nat.zero_add, hf]

/-- The test that finds the input at 1 starts one more pulse (60_exceptions.md R229). -/
theorem pulse (hv : s.params.Valid) (hl : s.lstate = .loop) (hlu : u.lstate = .high) (hc : u.lCnt = s.params.phaseTicks)
    (hd : u.dirOut = s.dirOut) (hup : u.stepOf s.activeAxis = true) : Retreated (k + 1) (r + 1) s t where
  duration := by
    have hk := h.duration
    rw [State.ticksToTest_high hlu, hc, hm.params, max_eq_left hv] at hk
    rw [State.ticksToTest_loop hl, Nat.succ_mul]
    omega
  limit_hit := h.limit_hit
  stopped := h.stopped
  dir_out := h.dir_out.trans hd
  level := by simpa [hm.activeAxis, hlu] using h.level
  falls := by
    have hf := h.falls
    rw [hm.activeAxis, hlu, if_pos rfl] at hf
    rw [trace_succ hs, edges_append, edges_tickObs, hup, hf, hl]
    simp

/-- The falling edge of a retreat pulse (60_exceptions.md R230). -/
theorem fall (hv : s.params.Valid) (hl : s.lstate = .high) (hlu : u.lstate = .low) (hcs : s.lCnt ≤ 1)
    (hc : u.lCnt = s.params.phaseTicks) (hd : u.dirOut = s.dirOut) (hup : s.stepOf s.activeAxis = true)
    (hdown : u.stepOf s.activeAxis = false) : Retreated (k + 1) r s t where
  duration := by
    have hk := h.duration
    rw [State.ticksToTest_low hlu, hc, hm.params, max_eq_left hv] at hk
    rw [State.ticksToTest_high hl, max_eq_right hcs]
    omega
  limit_hit := h.limit_hit
  stopped := h.stopped
  dir_out := h.dir_out.trans hd
  level := by simpa [hm.activeAxis, hl, hdown] using h.level
  falls := by
    have hf := h.falls
    rw [hm.activeAxis, hlu, if_neg nofun] at hf
    rw [trace_succ hs, edges_append, edges_tickObs, hup, hdown, hf, hl, if_pos ⟨nofun, rfl⟩, if_pos rfl]
    omega

end Tick

/-- The test that finds the input at 0 ends the retreat (60_exceptions.md R229, R233). -/
theorem leave (hl : s.lstate = .loop) (hs : step s = .next u) (hsh : SameShared s u) (hlu : u.lstate = .finish)
    (hrun : HandlerRun k u t) (ht : t.lstate = .idle) : Retreated (k + 1) 0 s t := by
  obtain ⟨hk, hhit, hkeep, hdir, hstep, hedges⟩ := hrun.finishes hlu ht
  have hnone : edges s.activeAxis false (trace (k + 1) s) = 0 := by
    rw [trace_succ hs, edges_append, edges_tickObs_of_same (hsh.stepOf _), hedges]
  exact {
    duration := by rw [State.ticksToTest_loop hl, hk, Nat.zero_mul]
    limit_hit := hhit
    stopped := hkeep
    dir_out := hdir.trans hsh.dirOut
    level := by rw [if_pos ⟨rfl, by simp [hl]⟩, hstep, hsh.stepOf]
    falls := by rw [hnone, hl, if_neg nofun] }

end Retreated

/-- A retreat that ends has emitted a number of pulses (60_exceptions.md R229 to R233). -/
theorem HandlerRun.retreated (h : HandlerRun k s t) (hs : s.Retreating) (ht : t.lstate = .idle) (hv : s.params.Valid)
    (hax : s.activeAxis ≠ .reserved) (hup : s.lstate = .high → s.stepOf s.activeAxis = true) :
    ∃ r, Retreated k r s t := by
  induction h with
  | refl s => exact absurd ht hs.ne_idle
  | @tick k s x t hr hl hmv hrest ih =>
    have hstep := step_of_lsmMove hr (.inl hl) hmv
    have hm : SameMain s (s.latch s.input x) := hmv.sameMain.latch
    have hrestDone (hret : x.Retreating) (hupx : x.lstate = .high → x.stepOf x.activeAxis = true) :
        ∃ r, Retreated k r (s.latch s.input x) t :=
      ih hret ht (hm.params.symm ▸ hv) (hm.activeAxis.symm ▸ hax) hupx
    have hdriven (v : Bool) : (s.driveStep v).stepOf s.activeAxis = v :=
      (s.stepOf_driveStep v _).trans (if_pos ⟨rfl, hax⟩)
    cases hmv with
    | loopPulse hl =>
      obtain ⟨r, h⟩ := hrestDone (.inr (.inl rfl)) fun _ => hdriven true
      exact ⟨r + 1, h.pulse hstep hm hv hl rfl rfl rfl (hdriven true)⟩
    | loopDone hl => exact ⟨0, .leave hl hstep ⟨rfl, rfl, rfl, rfl, rfl, rfl⟩ rfl hrest ht⟩
    | highWait hl hc =>
      obtain ⟨r, h⟩ := hrestDone hs hup
      refine ⟨r, h.wait hstep hm ⟨rfl, rfl, rfl, rfl, rfl, rfl⟩ Iff.rfl ?_⟩
      rw [State.ticksToTest_high hl, State.ticksToTest_high (by exact hl)]
      show max s.lCnt 1 + s.params.phaseTicks = max (s.lCnt - 1) 1 + s.params.phaseTicks + 1
      omega
    | highEnd hl hc =>
      obtain ⟨r, h⟩ := hrestDone (.inr (.inr rfl)) nofun
      exact ⟨r, h.fall hstep hm hv hl rfl hc rfl rfl (hup hl) (hdriven false)⟩
    | lowWait hl hc =>
      obtain ⟨r, h⟩ := hrestDone hs hup
      refine ⟨r, h.wait hstep hm ⟨rfl, rfl, rfl, rfl, rfl, rfl⟩ Iff.rfl ?_⟩
      rw [State.ticksToTest_low hl, State.ticksToTest_low (by exact hl)]
      show max s.lCnt 1 = max (s.lCnt - 1) 1 + 1
      omega
    | lowEnd hl hc =>
      obtain ⟨r, h⟩ := hrestDone (.inl rfl) nofun
      refine ⟨r, h.wait hstep hm ⟨rfl, rfl, rfl, rfl, rfl, rfl⟩ (by simp [hl]) ?_⟩
      rw [State.ticksToTest_low hl, State.ticksToTest_loop rfl, max_eq_right hc]
    | rest hl | take hl | debounceCount hl | debounceDone hl | checkReverse hl | checkLeave hl | finish hl =>
      simp [State.Retreating, hl] at hs

/-! ### From the re-check to the end -/

/-- A re-check that returns ends the handler at once (60_exceptions.md R227). -/
theorem HandlerRun.check_leave (h : HandlerRun k s t) (hl : s.lstate = .check) (ht : t.lstate = .idle)
    (hno : ¬(s.limS = true ∧ s.cmdPend = true)) : k = 1 ∧ QuietRun 1 s t := by
  cases h with
  | refl => simp [hl] at ht
  | tick hr hbusy hmv hrest =>
    cases hmv with
    | checkLeave =>
      cases hrest with
      | refl => exact ⟨rfl, check_leaves hl hr hno⟩
      | tick _ hbusy => exact absurd rfl hbusy
    | checkReverse _ hi hc => exact absurd ⟨hi, hc⟩ hno
    | rest h | take h | debounceCount h | debounceDone h | loopPulse h | loopDone h | highWait h | highEnd h
    | lowWait h | lowEnd h | finish h => simp [hl] at h

/-- The net effect of a handler that acts, from its re-check on, with `r` retreat pulses (60_exceptions.md R228 to R233). -/
structure Acted (k r : Nat) (s t : State) : Prop where
  duration : k = r * (2 * s.params.phaseTicks + 1) + 3
  dir_out : t.dirOut = !s.activeDir
  limit_hit : t.limitHit = true
  stopped : t.keepPulsing = false
  level : t.stepOf s.activeAxis = if r = 0 then s.stepOf s.activeAxis else false
  falls : edges s.activeAxis false (trace k s) = r

/-- A re-check that finds the input at 1 and a command pending reverses and retreats (60_exceptions.md R227, R228). -/
theorem HandlerRun.check_acts (h : HandlerRun k s t) (hl : s.lstate = .check) (ht : t.lstate = .idle)
    (hi : s.limS = true) (hc : s.cmdPend = true) (hv : s.params.Valid) (hax : s.activeAxis ≠ .reserved) :
    ∃ r, Acted k r s t := by
  cases h with
  | refl => simp [hl] at ht
  | @tick k _ x _ hr hbusy hmv hrest =>
    have hs := step_of_lsmMove hr (.inl hbusy) hmv
    have hsame (a : Axis) : (s.latch s.input x).stepOf a = s.stepOf a :=
      hmv.stepOf_same (by simp [hl]) (by simp [hl]) a
    have hnone : edges s.activeAxis false (tickObs s (s.latch s.input x)) = 0 := edges_tickObs_of_same (hsame _)
    cases hmv with
    | checkReverse =>
      obtain ⟨r, h⟩ := hrest.retreated (.inl rfl) ht hv hax nofun
      exact ⟨r, {
        duration := congrArg (· + 1) (h.duration.trans (by rw [State.ticksToTest_loop rfl, Nat.zero_add]; rfl))
        dir_out := h.dir_out
        limit_hit := h.limit_hit
        stopped := h.stopped
        level := by
          have hlevel := h.level
          rw [hsame] at hlevel
          simpa using hlevel
        falls := by rw [trace_succ hs, edges_append, hnone, Nat.zero_add]; exact h.falls }⟩
    | checkLeave _ hno => exact absurd ⟨hi, hc⟩ hno
    | rest h | take h | debounceCount h | debounceDone h | loopPulse h | loopDone h | highWait h | highEnd h
    | lowWait h | lowEnd h | finish h => simp [hl] at h

/-! ### A whole activation -/

/-- The handler cannot be back at rest before its re-check (60_exceptions.md R226). -/
theorem lt_of_back_at_rest (hl : s.lstate = .idle) (hp : s.limPend = true) (hn : s.NoReset k) (hk : 0 < k)
    (h : ticks k s = .next t) (ht : t.lstate = .idle) : s.params.debounceTicks + 2 < k := by
  by_contra hle
  obtain ⟨j, rfl⟩ := Nat.exists_eq_add_one.2 hk
  have hbusy : t.lstate ≠ .idle := by
    rcases Nat.lt_or_ge s.params.debounceTicks j with hj | hj
    · obtain rfl : j = s.params.debounceTicks + 1 := by omega
      obtain ⟨u, hq, hlu, _⟩ := entry_to_check hl hp hn
      cases hq.reached.symm.trans h
      simp [hlu]
    · obtain ⟨u, hq, hlu, _⟩ := entry_counts hl hp hn hj
      cases hq.reached.symm.trans h
      simp [hlu]
  exact hbusy ht

/-- An activation that ends: a quiet run to the re-check, and from there the handler runs to its end. -/
theorem activation_at_check (hl : s.lstate = .idle) (hp : s.limPend = true) (hn : s.NoReset k) (hk : 0 < k)
    (h : ticks k s = .next t) (ht : t.lstate = .idle)
    (hb : ∀ j < k, 0 < j → ∀ u, ticks j s = .next u → u.lstate ≠ .idle) :
    ∃ u m, k = s.params.debounceTicks + 2 + m ∧ QuietRun (s.params.debounceTicks + 2) s u ∧ u.lstate = .check ∧
      HandlerRun m u t := by
  obtain ⟨m, rfl⟩ := Nat.exists_eq_add_of_lt (lt_of_back_at_rest hl hp hn hk h ht)
  rw [Nat.add_assoc] at hn hb h
  obtain ⟨u, hq, hlu, _⟩ := entry_to_check hl hp (hn.mono (Nat.le_add_right _ _))
  refine ⟨u, m + 1, Nat.add_assoc _ _ _, hq, hlu, .of_ticks (State.NoReset.drop hn hq.reached) (fun j hj v hv => ?_) ?_⟩
  · exact hb _ (Nat.add_lt_add_left hj _) (by omega) v ((ticks_add hq.reached).trans hv)
  · exact (ticks_add hq.reached).symm.trans h

end Retreat

/-- Settles O49: the input at 1 keeps the handler in the retreat, which leaves MAIN where it was. -/
theorem heldLimitNeverReleasesMain : Obligations.HeldLimitNeverReleasesMain := by
  intro s k hn hh hs
  obtain ⟨t, hrun, hret, hhit, hkeep, hdir⟩ := retreat_goes_on hn hh hs
  exact ⟨t, hrun.reached, hret, hrun.sameMain, hhit, hkeep, hdir, hrun.receivedBytes_eq_nil, hrun.sentBytes_eq_nil⟩

/-- Settles O51: what the re-check decides; the rises follow from the falls and the level at the two ends. -/
theorem activationHasOneOfTwoNetEffects : Obligations.ActivationHasOneOfTwoNetEffects := by
  intro s t k hv hn hl hp hax hk h ht hb
  obtain ⟨u, m, rfl, hq, hlu, hrun⟩ := activation_at_check hl hp hn hk h ht hb
  have htrace : trace (s.params.debounceTicks + 2 + m) s = trace m u := by
    rw [trace_add hq.reached, hq.silent, List.nil_append]
  have hrecv : receivedBytes (s.params.debounceTicks + 2 + m) s = [] := by
    rw [receivedBytes_add hq.reached, hq.no_byte, hrun.receivedBytes_eq_nil, List.nil_append]
  have haxis : u.activeAxis = s.activeAxis := hq.main.activeAxis
  refine ⟨hq.main.trans hrun.sameMain, htrace ▸ hrun.sentBytes_eq_nil, hrecv, u, hq.reached, hlu, fun hno => ?_,
    fun hi hc => ?_⟩
  · have hleave : ¬(u.limS = true ∧ u.cmdPend = true) := by
      rintro ⟨hi, hc⟩
      rw [hq.main.cmdPend] at hc
      rcases hno with hno | hno
      · simp [hno] at hi
      · simp [hno] at hc
    obtain ⟨rfl, hq'⟩ := hrun.check_leave hlu ht hleave
    exact ⟨rfl, hq.shared.trans hq'.shared, htrace.trans hq'.silent⟩
  · obtain ⟨r, hact⟩ := hrun.check_acts hlu ht hi (hq.main.cmdPend.trans hc) (hq.main.params.symm ▸ hv) (haxis ▸ hax)
    obtain ⟨hdur, hdir, hhit, hstop, hlevel, hfalls⟩ := hact
    rw [haxis] at hlevel hfalls
    rw [hq.shared.stepOf] at hlevel
    rw [hq.main.params] at hdur
    have hbalance := edges_balance h s.activeAxis
    rw [htrace, hfalls, hlevel] at hbalance
    rw [htrace]
    refine ⟨hdir.trans (congrArg (!·) hq.main.activeDir), hhit, hstop, r, by omega, hlevel, hfalls, ?_,
      fun b v hb => hrun.edges_other (haxis ▸ hb)⟩
    by_cases hr : r = 0
    · simpa [hr] using hbalance
    · cases hs : s.stepOf s.activeAxis <;> simpa [hr, hs] using hbalance

end Sys2Proof.Machine
